-- ==== Sys2Proof/Word.lean ====
section
/-!
DEFINITION. The word types of the machine (spec/00_scope.md R5, R6).
-/

namespace Sys2Proof

/-- `DATA_W` = 8 bits: A, B, C, D, E, H, L, the flag byte, a port number (R5). -/
abbrev Byte := BitVec 8

/-- `ADDR_W` = 16 bits: PC, SP, the register pairs, a memory address (R5). -/
abbrev Addr := BitVec 16

/-- `CTR_W` = 64 bits: `cycle`, `icount`, `next_wakeup` (R5). -/
abbrev Counter := BitVec 64

end Sys2Proof
end

