-- ==== Sys2Proof/Machine/Bits.lean ====
section
/-!
DEFINITION. The byte and bit helpers of the notation (spec/00_scope.md R6, R8).
-/

namespace Sys2Proof.Machine

/-- `{hi, lo}` = `hi*256 + lo` (R6). -/
def word16 (hi lo : Byte) : Addr := hi ++ lo

/-- `v[15:8]` (R6). -/
def hiByte (v : Addr) : Byte := v.extractLsb' 8 8

/-- `v[7:0]` (R6). -/
def loByte (v : Addr) : Byte := v.extractLsb' 0 8

/-- A byte whose bit `n` is `b` and whose other bits are 0: `b << n`. -/
def bitAt (b : Bool) (n : Nat) : Byte := if b then 1#8 <<< n else 0#8

/-- `popcount(v)`: the number of 1 bits of a byte (R6). -/
def popcount (v : Byte) : Nat :=
  (v.getLsbD 0).toNat + (v.getLsbD 1).toNat + (v.getLsbD 2).toNat + (v.getLsbD 3).toNat +
  (v.getLsbD 4).toNat + (v.getLsbD 5).toNat + (v.getLsbD 6).toNat + (v.getLsbD 7).toNat

/-- `trunc_8` of a natural (R6, R7). -/
def trunc8 (n : Nat) : Byte := BitVec.ofNat 8 n

/-- `trunc_16` of a natural (R6, R7). -/
def trunc16 (n : Nat) : Addr := BitVec.ofNat 16 n

end Sys2Proof.Machine
end

