-- ==== Sys2Proof/Syntax.lean ====
section
/-!
DEFINITION. The instructions: one constructor per row of spec/opcode_table.json, and the operand
names of spec/30_encoding.md R75, R76, R81, R82. Below it, the instruction families that the numbered rules speak of,
as functions from a rule's operands to the constructor.
-/

namespace Sys2Proof

/-- The seven 8-bit registers (R20, R75; code 110 is the memory operand and has instructions of its own). -/
inductive Reg8 where
  | b | c | d | e | h | l | a
  deriving DecidableEq, Repr

/-- The pairs of LXI, INX, DCX and DAD (R76). -/
inductive RegPair where
  | bc | de | hl | sp
  deriving DecidableEq, Repr

/-- The pairs of PUSH and POP but PSW (R76). -/
inductive PushPair where
  | bc | de | hl
  deriving DecidableEq, Repr

/-- The pairs of LDAX and STAX (R76). -/
inductive IndexPair where
  | bc | de
  deriving DecidableEq, Repr

/-- The eight conditions, in the order of their `ccc` codes (R81). -/
inductive Cond where
  | nz | z | nc | c | po | pe | p | m
  deriving DecidableEq, Repr

/-- The eight ALU operations, in the order of their `ooo` codes (R82). -/
inductive AluOp where
  | add | adc | sub | sbb | ana | xra | ora | cmp
  deriving DecidableEq, Repr

/-- The 256 instructions, those with an operand first (compiled Lean limits the tags of constructors with fields), each
group in the table's order. Operands: `d8` a byte, `p8` a port number, `d16` and `a16` a 16-bit immediate (R73). -/
inductive Instr where
  | lxiB (d16 : Addr)
  | mviB (d8 : Byte)
  | mviC (d8 : Byte)
  | lxiD (d16 : Addr)
  | mviD (d8 : Byte)
  | mviE (d8 : Byte)
  | lxiH (d16 : Addr)
  | shld (a16 : Addr)
  | mviH (d8 : Byte)
  | lhld (a16 : Addr)
  | mviL (d8 : Byte)
  | lxiSp (d16 : Addr)
  | sta (a16 : Addr)
  | mviM (d8 : Byte)
  | lda (a16 : Addr)
  | mviA (d8 : Byte)
  | jnz (a16 : Addr)
  | jmp (a16 : Addr)
  | cnz (a16 : Addr)
  | adi (d8 : Byte)
  | jz (a16 : Addr)
  | cz (a16 : Addr)
  | call (a16 : Addr)
  | aci (d8 : Byte)
  | jnc (a16 : Addr)
  | outPort (p8 : Byte)
  | cnc (a16 : Addr)
  | sui (d8 : Byte)
  | jc (a16 : Addr)
  | inPort (p8 : Byte)
  | cc (a16 : Addr)
  | sbi (d8 : Byte)
  | jpo (a16 : Addr)
  | cpo (a16 : Addr)
  | ani (d8 : Byte)
  | jpe (a16 : Addr)
  | cpe (a16 : Addr)
  | xri (d8 : Byte)
  | jp (a16 : Addr)
  | cp (a16 : Addr)
  | ori (d8 : Byte)
  | jm (a16 : Addr)
  | cm (a16 : Addr)
  | cpi (d8 : Byte)
  | nop
  | staxB
  | inxB
  | inrB
  | dcrB
  | rlc
  | undocumented08
  | dadB
  | ldaxB
  | dcxB
  | inrC
  | dcrC
  | rrc
  | undocumented10
  | staxD
  | inxD
  | inrD
  | dcrD
  | ral
  | undocumented18
  | dadD
  | ldaxD
  | dcxD
  | inrE
  | dcrE
  | rar
  | undocumented20
  | inxH
  | inrH
  | dcrH
  | daa
  | undocumented28
  | dadH
  | dcxH
  | inrL
  | dcrL
  | cma
  | undocumented30
  | inxSp
  | inrM
  | dcrM
  | stc
  | undocumented38
  | dadSp
  | dcxSp
  | inrA
  | dcrA
  | cmc
  | movBB
  | movBC
  | movBD
  | movBE
  | movBH
  | movBL
  | movBM
  | movBA
  | movCB
  | movCC
  | movCD
  | movCE
  | movCH
  | movCL
  | movCM
  | movCA
  | movDB
  | movDC
  | movDD
  | movDE
  | movDH
  | movDL
  | movDM
  | movDA
  | movEB
  | movEC
  | movED
  | movEE
  | movEH
  | movEL
  | movEM
  | movEA
  | movHB
  | movHC
  | movHD
  | movHE
  | movHH
  | movHL
  | movHM
  | movHA
  | movLB
  | movLC
  | movLD
  | movLE
  | movLH
  | movLL
  | movLM
  | movLA
  | movMB
  | movMC
  | movMD
  | movME
  | movMH
  | movML
  | hlt
  | movMA
  | movAB
  | movAC
  | movAD
  | movAE
  | movAH
  | movAL
  | movAM
  | movAA
  | addB
  | addC
  | addD
  | addE
  | addH
  | addL
  | addM
  | addA
  | adcB
  | adcC
  | adcD
  | adcE
  | adcH
  | adcL
  | adcM
  | adcA
  | subB
  | subC
  | subD
  | subE
  | subH
  | subL
  | subM
  | subA
  | sbbB
  | sbbC
  | sbbD
  | sbbE
  | sbbH
  | sbbL
  | sbbM
  | sbbA
  | anaB
  | anaC
  | anaD
  | anaE
  | anaH
  | anaL
  | anaM
  | anaA
  | xraB
  | xraC
  | xraD
  | xraE
  | xraH
  | xraL
  | xraM
  | xraA
  | oraB
  | oraC
  | oraD
  | oraE
  | oraH
  | oraL
  | oraM
  | oraA
  | cmpB
  | cmpC
  | cmpD
  | cmpE
  | cmpH
  | cmpL
  | cmpM
  | cmpA
  | rnz
  | popB
  | pushB
  | rst0
  | rz
  | ret
  | undocumentedCB
  | rst1
  | rnc
  | popD
  | pushD
  | rst2
  | rc
  | undocumentedD9
  | undocumentedDD
  | rst3
  | rpo
  | popH
  | xthl
  | pushH
  | rst4
  | rpe
  | pchl
  | xchg
  | undocumentedED
  | rst5
  | rp
  | popPsw
  | di
  | pushPsw
  | rst6
  | rm
  | sphl
  | ei
  | undocumentedFD
  | rst7
  deriving DecidableEq, Repr

/-- MOV r,r': destination, then source (R100). -/
def Instr.mov : Reg8 → Reg8 → Instr
  | .b, .b => .movBB
  | .b, .c => .movBC
  | .b, .d => .movBD
  | .b, .e => .movBE
  | .b, .h => .movBH
  | .b, .l => .movBL
  | .b, .a => .movBA
  | .c, .b => .movCB
  | .c, .c => .movCC
  | .c, .d => .movCD
  | .c, .e => .movCE
  | .c, .h => .movCH
  | .c, .l => .movCL
  | .c, .a => .movCA
  | .d, .b => .movDB
  | .d, .c => .movDC
  | .d, .d => .movDD
  | .d, .e => .movDE
  | .d, .h => .movDH
  | .d, .l => .movDL
  | .d, .a => .movDA
  | .e, .b => .movEB
  | .e, .c => .movEC
  | .e, .d => .movED
  | .e, .e => .movEE
  | .e, .h => .movEH
  | .e, .l => .movEL
  | .e, .a => .movEA
  | .h, .b => .movHB
  | .h, .c => .movHC
  | .h, .d => .movHD
  | .h, .e => .movHE
  | .h, .h => .movHH
  | .h, .l => .movHL
  | .h, .a => .movHA
  | .l, .b => .movLB
  | .l, .c => .movLC
  | .l, .d => .movLD
  | .l, .e => .movLE
  | .l, .h => .movLH
  | .l, .l => .movLL
  | .l, .a => .movLA
  | .a, .b => .movAB
  | .a, .c => .movAC
  | .a, .d => .movAD
  | .a, .e => .movAE
  | .a, .h => .movAH
  | .a, .l => .movAL
  | .a, .a => .movAA

/-- MOV r,M (R101). -/
def Instr.movFromM : Reg8 → Instr
  | .b => .movBM
  | .c => .movCM
  | .d => .movDM
  | .e => .movEM
  | .h => .movHM
  | .l => .movLM
  | .a => .movAM

/-- MOV M,r (R102). -/
def Instr.movToM : Reg8 → Instr
  | .b => .movMB
  | .c => .movMC
  | .d => .movMD
  | .e => .movME
  | .h => .movMH
  | .l => .movML
  | .a => .movMA

/-- MVI r,d8 (R103). -/
def Instr.mvi : Reg8 → Byte → Instr
  | .b, d8 => .mviB d8
  | .c, d8 => .mviC d8
  | .d, d8 => .mviD d8
  | .e, d8 => .mviE d8
  | .h, d8 => .mviH d8
  | .l, d8 => .mviL d8
  | .a, d8 => .mviA d8

/-- LDAX rp (R109). -/
def Instr.ldax : IndexPair → Instr
  | .bc => .ldaxB
  | .de => .ldaxD

/-- STAX rp (R110). -/
def Instr.stax : IndexPair → Instr
  | .bc => .staxB
  | .de => .staxD

/-- LXI rp,d16 (R111). -/
def Instr.lxi : RegPair → Addr → Instr
  | .bc, d16 => .lxiB d16
  | .de, d16 => .lxiD d16
  | .hl, d16 => .lxiH d16
  | .sp, d16 => .lxiSp d16

/-- PUSH rp (R120). -/
def Instr.push : PushPair → Instr
  | .bc => .pushB
  | .de => .pushD
  | .hl => .pushH

/-- POP rp (R122). -/
def Instr.pop : PushPair → Instr
  | .bc => .popB
  | .de => .popD
  | .hl => .popH

/-- The ALU operations on a register: `10 ooo sss` (R82). -/
def Instr.aluR : AluOp → Reg8 → Instr
  | .add, .b => .addB
  | .add, .c => .addC
  | .add, .d => .addD
  | .add, .e => .addE
  | .add, .h => .addH
  | .add, .l => .addL
  | .add, .a => .addA
  | .adc, .b => .adcB
  | .adc, .c => .adcC
  | .adc, .d => .adcD
  | .adc, .e => .adcE
  | .adc, .h => .adcH
  | .adc, .l => .adcL
  | .adc, .a => .adcA
  | .sub, .b => .subB
  | .sub, .c => .subC
  | .sub, .d => .subD
  | .sub, .e => .subE
  | .sub, .h => .subH
  | .sub, .l => .subL
  | .sub, .a => .subA
  | .sbb, .b => .sbbB
  | .sbb, .c => .sbbC
  | .sbb, .d => .sbbD
  | .sbb, .e => .sbbE
  | .sbb, .h => .sbbH
  | .sbb, .l => .sbbL
  | .sbb, .a => .sbbA
  | .ana, .b => .anaB
  | .ana, .c => .anaC
  | .ana, .d => .anaD
  | .ana, .e => .anaE
  | .ana, .h => .anaH
  | .ana, .l => .anaL
  | .ana, .a => .anaA
  | .xra, .b => .xraB
  | .xra, .c => .xraC
  | .xra, .d => .xraD
  | .xra, .e => .xraE
  | .xra, .h => .xraH
  | .xra, .l => .xraL
  | .xra, .a => .xraA
  | .ora, .b => .oraB
  | .ora, .c => .oraC
  | .ora, .d => .oraD
  | .ora, .e => .oraE
  | .ora, .h => .oraH
  | .ora, .l => .oraL
  | .ora, .a => .oraA
  | .cmp, .b => .cmpB
  | .cmp, .c => .cmpC
  | .cmp, .d => .cmpD
  | .cmp, .e => .cmpE
  | .cmp, .h => .cmpH
  | .cmp, .l => .cmpL
  | .cmp, .a => .cmpA

/-- The ALU operations on M: `10 ooo 110` (R82). -/
def Instr.aluM : AluOp → Instr
  | .add => .addM
  | .adc => .adcM
  | .sub => .subM
  | .sbb => .sbbM
  | .ana => .anaM
  | .xra => .xraM
  | .ora => .oraM
  | .cmp => .cmpM

/-- The ALU operations on an immediate: `11 ooo 110` (R82). -/
def Instr.aluI : AluOp → Byte → Instr
  | .add, d8 => .adi d8
  | .adc, d8 => .aci d8
  | .sub, d8 => .sui d8
  | .sbb, d8 => .sbi d8
  | .ana, d8 => .ani d8
  | .xra, d8 => .xri d8
  | .ora, d8 => .ori d8
  | .cmp, d8 => .cpi d8

/-- INR r (R170). -/
def Instr.inr : Reg8 → Instr
  | .b => .inrB
  | .c => .inrC
  | .d => .inrD
  | .e => .inrE
  | .h => .inrH
  | .l => .inrL
  | .a => .inrA

/-- DCR r (R172). -/
def Instr.dcr : Reg8 → Instr
  | .b => .dcrB
  | .c => .dcrC
  | .d => .dcrD
  | .e => .dcrE
  | .h => .dcrH
  | .l => .dcrL
  | .a => .dcrA

/-- INX rp (R174). -/
def Instr.inx : RegPair → Instr
  | .bc => .inxB
  | .de => .inxD
  | .hl => .inxH
  | .sp => .inxSp

/-- DCX rp (R175). -/
def Instr.dcx : RegPair → Instr
  | .bc => .dcxB
  | .de => .dcxD
  | .hl => .dcxH
  | .sp => .dcxSp

/-- DAD rp (R176). -/
def Instr.dad : RegPair → Instr
  | .bc => .dadB
  | .de => .dadD
  | .hl => .dadH
  | .sp => .dadSp

/-- Jcc a16 (R201). -/
def Instr.jcc : Cond → Addr → Instr
  | .nz, a16 => .jnz a16
  | .z, a16 => .jz a16
  | .nc, a16 => .jnc a16
  | .c, a16 => .jc a16
  | .po, a16 => .jpo a16
  | .pe, a16 => .jpe a16
  | .p, a16 => .jp a16
  | .m, a16 => .jm a16

/-- Ccc a16 (R203). -/
def Instr.ccc : Cond → Addr → Instr
  | .nz, a16 => .cnz a16
  | .z, a16 => .cz a16
  | .nc, a16 => .cnc a16
  | .c, a16 => .cc a16
  | .po, a16 => .cpo a16
  | .pe, a16 => .cpe a16
  | .p, a16 => .cp a16
  | .m, a16 => .cm a16

/-- Rcc (R205). -/
def Instr.rcc : Cond → Instr
  | .nz => .rnz
  | .z => .rz
  | .nc => .rnc
  | .c => .rc
  | .po => .rpo
  | .pe => .rpe
  | .p => .rp
  | .m => .rm

/-- RST n (R208). -/
def Instr.rst : Fin 8 → Instr
  | 0 => .rst0
  | 1 => .rst1
  | 2 => .rst2
  | 3 => .rst3
  | 4 => .rst4
  | 5 => .rst5
  | 6 => .rst6
  | 7 => .rst7

end Sys2Proof
end

