-- ==== Sys2Proof/WellFormed.lean ====
section
/-!
DEFINITION. Which instructions the engine admits (spec/30_encoding.md R77, R78, R79).
Operands need no check: every value of `d8`, `p8`, `d16` and `a16` is encodable (R73), and the operand
types hold nothing else. Admission is the one check the spec makes on an instruction (R74 `Admitted`).
-/

namespace Sys2Proof

/-- The three sets that partition the 256 opcodes (R85). -/
inductive Tier where
  /-- Always executes (R77). -/
  | listed
  /-- Executes only if `ADMIT_UNLISTED` (R78). -/
  | unlisted
  /-- Always halts with `UnknownOpcode` (R79). -/
  | halting
  deriving DecidableEq, Repr

/-- The set an instruction is in: the four of R78, the thirteen of R79, and the rest (R77). -/
def Instr.tier : Instr → Tier
  | .nop => .listed
  | .lxiB _ => .listed
  | .staxB => .listed
  | .inxB => .listed
  | .inrB => .listed
  | .dcrB => .listed
  | .mviB _ => .listed
  | .rlc => .listed
  | .undocumented08 => .halting
  | .dadB => .listed
  | .ldaxB => .listed
  | .dcxB => .listed
  | .inrC => .listed
  | .dcrC => .listed
  | .mviC _ => .listed
  | .rrc => .listed
  | .undocumented10 => .halting
  | .lxiD _ => .listed
  | .staxD => .listed
  | .inxD => .listed
  | .inrD => .listed
  | .dcrD => .listed
  | .mviD _ => .listed
  | .ral => .listed
  | .undocumented18 => .halting
  | .dadD => .listed
  | .ldaxD => .listed
  | .dcxD => .listed
  | .inrE => .listed
  | .dcrE => .listed
  | .mviE _ => .listed
  | .rar => .listed
  | .undocumented20 => .halting
  | .lxiH _ => .listed
  | .shld _ => .listed
  | .inxH => .listed
  | .inrH => .listed
  | .dcrH => .listed
  | .mviH _ => .listed
  | .daa => .listed
  | .undocumented28 => .halting
  | .dadH => .listed
  | .lhld _ => .listed
  | .dcxH => .listed
  | .inrL => .listed
  | .dcrL => .listed
  | .mviL _ => .listed
  | .cma => .listed
  | .undocumented30 => .halting
  | .lxiSp _ => .listed
  | .sta _ => .listed
  | .inxSp => .listed
  | .inrM => .listed
  | .dcrM => .listed
  | .mviM _ => .unlisted
  | .stc => .listed
  | .undocumented38 => .halting
  | .dadSp => .listed
  | .lda _ => .listed
  | .dcxSp => .listed
  | .inrA => .listed
  | .dcrA => .listed
  | .mviA _ => .listed
  | .cmc => .unlisted
  | .movBB => .listed
  | .movBC => .listed
  | .movBD => .listed
  | .movBE => .listed
  | .movBH => .listed
  | .movBL => .listed
  | .movBM => .listed
  | .movBA => .listed
  | .movCB => .listed
  | .movCC => .listed
  | .movCD => .listed
  | .movCE => .listed
  | .movCH => .listed
  | .movCL => .listed
  | .movCM => .listed
  | .movCA => .listed
  | .movDB => .listed
  | .movDC => .listed
  | .movDD => .listed
  | .movDE => .listed
  | .movDH => .listed
  | .movDL => .listed
  | .movDM => .listed
  | .movDA => .listed
  | .movEB => .listed
  | .movEC => .listed
  | .movED => .listed
  | .movEE => .listed
  | .movEH => .listed
  | .movEL => .listed
  | .movEM => .listed
  | .movEA => .listed
  | .movHB => .listed
  | .movHC => .listed
  | .movHD => .listed
  | .movHE => .listed
  | .movHH => .listed
  | .movHL => .listed
  | .movHM => .listed
  | .movHA => .listed
  | .movLB => .listed
  | .movLC => .listed
  | .movLD => .listed
  | .movLE => .listed
  | .movLH => .listed
  | .movLL => .listed
  | .movLM => .listed
  | .movLA => .listed
  | .movMB => .listed
  | .movMC => .listed
  | .movMD => .listed
  | .movME => .listed
  | .movMH => .listed
  | .movML => .listed
  | .hlt => .halting
  | .movMA => .listed
  | .movAB => .listed
  | .movAC => .listed
  | .movAD => .listed
  | .movAE => .listed
  | .movAH => .listed
  | .movAL => .listed
  | .movAM => .listed
  | .movAA => .listed
  | .addB => .listed
  | .addC => .listed
  | .addD => .listed
  | .addE => .listed
  | .addH => .listed
  | .addL => .listed
  | .addM => .listed
  | .addA => .listed
  | .adcB => .listed
  | .adcC => .listed
  | .adcD => .listed
  | .adcE => .listed
  | .adcH => .listed
  | .adcL => .listed
  | .adcM => .listed
  | .adcA => .listed
  | .subB => .listed
  | .subC => .listed
  | .subD => .listed
  | .subE => .listed
  | .subH => .listed
  | .subL => .listed
  | .subM => .listed
  | .subA => .listed
  | .sbbB => .listed
  | .sbbC => .listed
  | .sbbD => .listed
  | .sbbE => .listed
  | .sbbH => .listed
  | .sbbL => .listed
  | .sbbM => .listed
  | .sbbA => .listed
  | .anaB => .listed
  | .anaC => .listed
  | .anaD => .listed
  | .anaE => .listed
  | .anaH => .listed
  | .anaL => .listed
  | .anaM => .listed
  | .anaA => .listed
  | .xraB => .listed
  | .xraC => .listed
  | .xraD => .listed
  | .xraE => .listed
  | .xraH => .listed
  | .xraL => .listed
  | .xraM => .listed
  | .xraA => .listed
  | .oraB => .listed
  | .oraC => .listed
  | .oraD => .listed
  | .oraE => .listed
  | .oraH => .listed
  | .oraL => .listed
  | .oraM => .listed
  | .oraA => .listed
  | .cmpB => .listed
  | .cmpC => .listed
  | .cmpD => .listed
  | .cmpE => .listed
  | .cmpH => .listed
  | .cmpL => .listed
  | .cmpM => .listed
  | .cmpA => .listed
  | .rnz => .listed
  | .popB => .listed
  | .jnz _ => .listed
  | .jmp _ => .listed
  | .cnz _ => .listed
  | .pushB => .listed
  | .adi _ => .listed
  | .rst0 => .listed
  | .rz => .listed
  | .ret => .listed
  | .jz _ => .listed
  | .undocumentedCB => .halting
  | .cz _ => .listed
  | .call _ => .listed
  | .aci _ => .listed
  | .rst1 => .listed
  | .rnc => .listed
  | .popD => .listed
  | .jnc _ => .listed
  | .outPort _ => .listed
  | .cnc _ => .listed
  | .pushD => .listed
  | .sui _ => .listed
  | .rst2 => .listed
  | .rc => .listed
  | .undocumentedD9 => .halting
  | .jc _ => .listed
  | .inPort _ => .listed
  | .cc _ => .listed
  | .undocumentedDD => .halting
  | .sbi _ => .listed
  | .rst3 => .listed
  | .rpo => .listed
  | .popH => .listed
  | .jpo _ => .listed
  | .xthl => .listed
  | .cpo _ => .listed
  | .pushH => .listed
  | .ani _ => .listed
  | .rst4 => .listed
  | .rpe => .listed
  | .pchl => .listed
  | .jpe _ => .listed
  | .xchg => .listed
  | .cpe _ => .listed
  | .undocumentedED => .halting
  | .xri _ => .listed
  | .rst5 => .listed
  | .rp => .listed
  | .popPsw => .listed
  | .jp _ => .listed
  | .di => .unlisted
  | .cp _ => .listed
  | .pushPsw => .listed
  | .ori _ => .listed
  | .rst6 => .listed
  | .rm => .listed
  | .sphl => .unlisted
  | .jm _ => .listed
  | .ei => .listed
  | .cm _ => .listed
  | .undocumentedFD => .halting
  | .cpi _ => .listed
  | .rst7 => .listed

/-- First check: the instruction is not in the halting set (R79). -/
def Instr.notHalting (i : Instr) : Bool := i.tier != .halting

/-- Second check: an unlisted instruction needs `ADMIT_UNLISTED` (R78). -/
def Instr.unlistedAllowed (admitUnlisted : Bool) (i : Instr) : Bool :=
  i.tier != .unlisted || admitUnlisted

/-- `Admitted(op)` of R74: both checks. -/
def Instr.wellFormed (admitUnlisted : Bool) (i : Instr) : Bool :=
  i.notHalting && i.unlistedAllowed admitUnlisted

end Sys2Proof
end

