-- ==== Sys2Proof/Decode.lean ====
section
/-!
DEFINITION. The decoder, written as the opcode map of spec/30_encoding.md R80 (a row is the high nibble of the opcode, a
column the low one), and after it the encoder, written from the bit fields of R71, R75, R76, R81, R82 and R84, so that
the two check each other.
-/

namespace Sys2Proof

open Machine (word16 hiByte loByte)

/-- Row 0 of the map of R80: the low nibble of the opcode and the two operand bytes (`lo` first, R73). -/
def decodeRow0 (col : Nat) (b1 b2 : Byte) : Instr :=
  match col with
  | 0 => .nop
  | 1 => .lxiB (word16 b2 b1)
  | 2 => .staxB
  | 3 => .inxB
  | 4 => .inrB
  | 5 => .dcrB
  | 6 => .mviB b1
  | 7 => .rlc
  | 8 => .undocumented08
  | 9 => .dadB
  | 10 => .ldaxB
  | 11 => .dcxB
  | 12 => .inrC
  | 13 => .dcrC
  | 14 => .mviC b1
  | _ => .rrc

/-- Row 1 of the map of R80. -/
def decodeRow1 (col : Nat) (b1 b2 : Byte) : Instr :=
  match col with
  | 0 => .undocumented10
  | 1 => .lxiD (word16 b2 b1)
  | 2 => .staxD
  | 3 => .inxD
  | 4 => .inrD
  | 5 => .dcrD
  | 6 => .mviD b1
  | 7 => .ral
  | 8 => .undocumented18
  | 9 => .dadD
  | 10 => .ldaxD
  | 11 => .dcxD
  | 12 => .inrE
  | 13 => .dcrE
  | 14 => .mviE b1
  | _ => .rar

/-- Row 2 of the map of R80. -/
def decodeRow2 (col : Nat) (b1 b2 : Byte) : Instr :=
  match col with
  | 0 => .undocumented20
  | 1 => .lxiH (word16 b2 b1)
  | 2 => .shld (word16 b2 b1)
  | 3 => .inxH
  | 4 => .inrH
  | 5 => .dcrH
  | 6 => .mviH b1
  | 7 => .daa
  | 8 => .undocumented28
  | 9 => .dadH
  | 10 => .lhld (word16 b2 b1)
  | 11 => .dcxH
  | 12 => .inrL
  | 13 => .dcrL
  | 14 => .mviL b1
  | _ => .cma

/-- Row 3 of the map of R80. -/
def decodeRow3 (col : Nat) (b1 b2 : Byte) : Instr :=
  match col with
  | 0 => .undocumented30
  | 1 => .lxiSp (word16 b2 b1)
  | 2 => .sta (word16 b2 b1)
  | 3 => .inxSp
  | 4 => .inrM
  | 5 => .dcrM
  | 6 => .mviM b1
  | 7 => .stc
  | 8 => .undocumented38
  | 9 => .dadSp
  | 10 => .lda (word16 b2 b1)
  | 11 => .dcxSp
  | 12 => .inrA
  | 13 => .dcrA
  | 14 => .mviA b1
  | _ => .cmc

/-- Row 4 of the map of R80. -/
def decodeRow4 (col : Nat) : Instr :=
  match col with
  | 0 => .movBB
  | 1 => .movBC
  | 2 => .movBD
  | 3 => .movBE
  | 4 => .movBH
  | 5 => .movBL
  | 6 => .movBM
  | 7 => .movBA
  | 8 => .movCB
  | 9 => .movCC
  | 10 => .movCD
  | 11 => .movCE
  | 12 => .movCH
  | 13 => .movCL
  | 14 => .movCM
  | _ => .movCA

/-- Row 5 of the map of R80. -/
def decodeRow5 (col : Nat) : Instr :=
  match col with
  | 0 => .movDB
  | 1 => .movDC
  | 2 => .movDD
  | 3 => .movDE
  | 4 => .movDH
  | 5 => .movDL
  | 6 => .movDM
  | 7 => .movDA
  | 8 => .movEB
  | 9 => .movEC
  | 10 => .movED
  | 11 => .movEE
  | 12 => .movEH
  | 13 => .movEL
  | 14 => .movEM
  | _ => .movEA

/-- Row 6 of the map of R80. -/
def decodeRow6 (col : Nat) : Instr :=
  match col with
  | 0 => .movHB
  | 1 => .movHC
  | 2 => .movHD
  | 3 => .movHE
  | 4 => .movHH
  | 5 => .movHL
  | 6 => .movHM
  | 7 => .movHA
  | 8 => .movLB
  | 9 => .movLC
  | 10 => .movLD
  | 11 => .movLE
  | 12 => .movLH
  | 13 => .movLL
  | 14 => .movLM
  | _ => .movLA

/-- Row 7 of the map of R80. -/
def decodeRow7 (col : Nat) : Instr :=
  match col with
  | 0 => .movMB
  | 1 => .movMC
  | 2 => .movMD
  | 3 => .movME
  | 4 => .movMH
  | 5 => .movML
  | 6 => .hlt
  | 7 => .movMA
  | 8 => .movAB
  | 9 => .movAC
  | 10 => .movAD
  | 11 => .movAE
  | 12 => .movAH
  | 13 => .movAL
  | 14 => .movAM
  | _ => .movAA

/-- Row 8 of the map of R80. -/
def decodeRow8 (col : Nat) : Instr :=
  match col with
  | 0 => .addB
  | 1 => .addC
  | 2 => .addD
  | 3 => .addE
  | 4 => .addH
  | 5 => .addL
  | 6 => .addM
  | 7 => .addA
  | 8 => .adcB
  | 9 => .adcC
  | 10 => .adcD
  | 11 => .adcE
  | 12 => .adcH
  | 13 => .adcL
  | 14 => .adcM
  | _ => .adcA

/-- Row 9 of the map of R80. -/
def decodeRow9 (col : Nat) : Instr :=
  match col with
  | 0 => .subB
  | 1 => .subC
  | 2 => .subD
  | 3 => .subE
  | 4 => .subH
  | 5 => .subL
  | 6 => .subM
  | 7 => .subA
  | 8 => .sbbB
  | 9 => .sbbC
  | 10 => .sbbD
  | 11 => .sbbE
  | 12 => .sbbH
  | 13 => .sbbL
  | 14 => .sbbM
  | _ => .sbbA

/-- Row A of the map of R80. -/
def decodeRowA (col : Nat) : Instr :=
  match col with
  | 0 => .anaB
  | 1 => .anaC
  | 2 => .anaD
  | 3 => .anaE
  | 4 => .anaH
  | 5 => .anaL
  | 6 => .anaM
  | 7 => .anaA
  | 8 => .xraB
  | 9 => .xraC
  | 10 => .xraD
  | 11 => .xraE
  | 12 => .xraH
  | 13 => .xraL
  | 14 => .xraM
  | _ => .xraA

/-- Row B of the map of R80. -/
def decodeRowB (col : Nat) : Instr :=
  match col with
  | 0 => .oraB
  | 1 => .oraC
  | 2 => .oraD
  | 3 => .oraE
  | 4 => .oraH
  | 5 => .oraL
  | 6 => .oraM
  | 7 => .oraA
  | 8 => .cmpB
  | 9 => .cmpC
  | 10 => .cmpD
  | 11 => .cmpE
  | 12 => .cmpH
  | 13 => .cmpL
  | 14 => .cmpM
  | _ => .cmpA

/-- Row C of the map of R80. -/
def decodeRowC (col : Nat) (b1 b2 : Byte) : Instr :=
  match col with
  | 0 => .rnz
  | 1 => .popB
  | 2 => .jnz (word16 b2 b1)
  | 3 => .jmp (word16 b2 b1)
  | 4 => .cnz (word16 b2 b1)
  | 5 => .pushB
  | 6 => .adi b1
  | 7 => .rst0
  | 8 => .rz
  | 9 => .ret
  | 10 => .jz (word16 b2 b1)
  | 11 => .undocumentedCB
  | 12 => .cz (word16 b2 b1)
  | 13 => .call (word16 b2 b1)
  | 14 => .aci b1
  | _ => .rst1

/-- Row D of the map of R80. -/
def decodeRowD (col : Nat) (b1 b2 : Byte) : Instr :=
  match col with
  | 0 => .rnc
  | 1 => .popD
  | 2 => .jnc (word16 b2 b1)
  | 3 => .outPort b1
  | 4 => .cnc (word16 b2 b1)
  | 5 => .pushD
  | 6 => .sui b1
  | 7 => .rst2
  | 8 => .rc
  | 9 => .undocumentedD9
  | 10 => .jc (word16 b2 b1)
  | 11 => .inPort b1
  | 12 => .cc (word16 b2 b1)
  | 13 => .undocumentedDD
  | 14 => .sbi b1
  | _ => .rst3

/-- Row E of the map of R80. -/
def decodeRowE (col : Nat) (b1 b2 : Byte) : Instr :=
  match col with
  | 0 => .rpo
  | 1 => .popH
  | 2 => .jpo (word16 b2 b1)
  | 3 => .xthl
  | 4 => .cpo (word16 b2 b1)
  | 5 => .pushH
  | 6 => .ani b1
  | 7 => .rst4
  | 8 => .rpe
  | 9 => .pchl
  | 10 => .jpe (word16 b2 b1)
  | 11 => .xchg
  | 12 => .cpe (word16 b2 b1)
  | 13 => .undocumentedED
  | 14 => .xri b1
  | _ => .rst5

/-- Row F of the map of R80. -/
def decodeRowF (col : Nat) (b1 b2 : Byte) : Instr :=
  match col with
  | 0 => .rp
  | 1 => .popPsw
  | 2 => .jp (word16 b2 b1)
  | 3 => .di
  | 4 => .cp (word16 b2 b1)
  | 5 => .pushPsw
  | 6 => .ori b1
  | 7 => .rst6
  | 8 => .rm
  | 9 => .sphl
  | 10 => .jm (word16 b2 b1)
  | 11 => .ei
  | 12 => .cm (word16 b2 b1)
  | 13 => .undocumentedFD
  | 14 => .cpi b1
  | _ => .rst7

/-- The instruction of an opcode byte and the two bytes after it, of which it uses as many as its length says
(R70, R73, R80, R83). -/
def decodeBytes (op b1 b2 : Byte) : Instr :=
  let col := op.toNat % 16
  match op.toNat / 16 with
  | 0 => decodeRow0 col b1 b2
  | 1 => decodeRow1 col b1 b2
  | 2 => decodeRow2 col b1 b2
  | 3 => decodeRow3 col b1 b2
  | 4 => decodeRow4 col
  | 5 => decodeRow5 col
  | 6 => decodeRow6 col
  | 7 => decodeRow7 col
  | 8 => decodeRow8 col
  | 9 => decodeRow9 col
  | 10 => decodeRowA col
  | 11 => decodeRowB col
  | 12 => decodeRowC col b1 b2
  | 13 => decodeRowD col b1 b2
  | 14 => decodeRowE col b1 b2
  | _ => decodeRowF col b1 b2

/-- The 3-byte opcodes (R83). -/
def opcodesF3 : List Byte :=
  [0x01, 0x11, 0x21, 0x31, 0x22, 0x2A, 0x32, 0x3A] ++
  [0xC3, 0xC2, 0xCA, 0xD2, 0xDA, 0xE2, 0xEA, 0xF2, 0xFA] ++
  [0xCD, 0xC4, 0xCC, 0xD4, 0xDC, 0xE4, 0xEC, 0xF4, 0xFC]

/-- The 2-byte opcodes (R83). -/
def opcodesF2 : List Byte :=
  [0x06, 0x0E, 0x16, 0x1E, 0x26, 0x2E, 0x3E, 0x36] ++
  [0xC6, 0xCE, 0xD6, 0xDE, 0xE6, 0xEE, 0xF6, 0xFE, 0xD3, 0xDB]

/-- `Length(op)` (R70, R83). -/
def opcodeLength (op : Byte) : Nat :=
  if opcodesF3.contains op then 3 else if opcodesF2.contains op then 2 else 1

/-- Why a byte string holds no whole instruction. -/
inductive DecodeError where
  /-- There is no opcode byte. -/
  | noOpcode
  /-- The opcode's length (R83) asks for more operand bytes than there are. -/
  | missingOperand (opcode : Byte)
  deriving DecidableEq, Repr

/-- The first instruction of a byte string, and the bytes after it. Every opcode byte is some instruction (R85); a string
that ends inside one is rejected by name. -/
def decode (bytes : List Byte) : Except DecodeError (Instr × List Byte) :=
  match bytes with
  | [] => .error .noOpcode
  | op :: rest =>
    match opcodeLength op, rest with
    | 1, rest => .ok (decodeBytes op 0 0, rest)
    | 2, b1 :: rest => .ok (decodeBytes op b1 0, rest)
    | _, b1 :: b2 :: rest => .ok (decodeBytes op b1 b2, rest)
    | _, _ => .error (.missingOperand op)

/-- The bytes of an instruction that the opcode table numbers as one word `w` of `nbits` bits: byte `k` is bits
`8k+7` down to `8k` (the opcode is the first), and every bit from `nbits` on is 0 (log entry 15). -/
def tableBytes (nbits w : Nat) : List Byte :=
  let v := w % 2 ^ nbits
  [BitVec.ofNat 8 v, BitVec.ofNat 8 (v / 256), BitVec.ofNat 8 (v / 65536)]

/-- The instruction the decoder reads from a word of the opcode table. -/
def decodeTableWord (nbits w : Nat) : Option Instr :=
  match decode (tableBytes nbits w) with
  | .ok x => some x.1
  | .error _ => none

/-- The 3-bit register code (R75). -/
def Reg8.code : Reg8 → Byte
  | .b => 0b000
  | .c => 0b001
  | .d => 0b010
  | .e => 0b011
  | .h => 0b100
  | .l => 0b101
  | .a => 0b111

/-- The code of the memory operand M (R75). -/
def codeM : Byte := 0b110

/-- The 2-bit register-pair code (R76). -/
def RegPair.code : RegPair → Byte
  | .bc => 0b00
  | .de => 0b01
  | .hl => 0b10
  | .sp => 0b11

/-- The code of PSW in PUSH and POP (R76). -/
def codePsw : Byte := 0b11

/-- The condition code `ccc` (R81). -/
def Cond.code : Cond → Byte
  | .nz => 0b000
  | .z => 0b001
  | .nc => 0b010
  | .c => 0b011
  | .po => 0b100
  | .pe => 0b101
  | .p => 0b110
  | .m => 0b111

/-- The ALU operation code `ooo` (R82). -/
def AluOp.code : AluOp → Byte
  | .add => 0b000
  | .adc => 0b001
  | .sub => 0b010
  | .sbb => 0b011
  | .ana => 0b100
  | .xra => 0b101
  | .ora => 0b110
  | .cmp => 0b111

/-- An opcode from its fields `op[7:6]`, `op[5:3]` and `op[2:0]` (R71). -/
def fields (top mid low : Byte) : Byte := top <<< 6 ||| mid <<< 3 ||| low

/-- An opcode from its fields `op[7:6]`, `rp = op[5:4]` and `op[3:0]` (R71). -/
def fieldsRp (top rp low : Byte) : Byte := top <<< 6 ||| rp <<< 4 ||| low

/-- The opcode byte of an instruction, from the `Encoding` line of its rule. -/
def opcode : Instr → Byte
  | .nop => 0x00
  | .lxiB _ => fieldsRp 0b00 (RegPair.code .bc) 0b0001
  | .staxB => fieldsRp 0b00 (RegPair.code .bc) 0b0010
  | .inxB => fieldsRp 0b00 (RegPair.code .bc) 0b0011
  | .inrB => fields 0b00 (Reg8.code .b) 0b100
  | .dcrB => fields 0b00 (Reg8.code .b) 0b101
  | .mviB _ => fields 0b00 (Reg8.code .b) 0b110
  | .rlc => 0x07
  | .undocumented08 => 0x08
  | .dadB => fieldsRp 0b00 (RegPair.code .bc) 0b1001
  | .ldaxB => fieldsRp 0b00 (RegPair.code .bc) 0b1010
  | .dcxB => fieldsRp 0b00 (RegPair.code .bc) 0b1011
  | .inrC => fields 0b00 (Reg8.code .c) 0b100
  | .dcrC => fields 0b00 (Reg8.code .c) 0b101
  | .mviC _ => fields 0b00 (Reg8.code .c) 0b110
  | .rrc => 0x0F
  | .undocumented10 => 0x10
  | .lxiD _ => fieldsRp 0b00 (RegPair.code .de) 0b0001
  | .staxD => fieldsRp 0b00 (RegPair.code .de) 0b0010
  | .inxD => fieldsRp 0b00 (RegPair.code .de) 0b0011
  | .inrD => fields 0b00 (Reg8.code .d) 0b100
  | .dcrD => fields 0b00 (Reg8.code .d) 0b101
  | .mviD _ => fields 0b00 (Reg8.code .d) 0b110
  | .ral => 0x17
  | .undocumented18 => 0x18
  | .dadD => fieldsRp 0b00 (RegPair.code .de) 0b1001
  | .ldaxD => fieldsRp 0b00 (RegPair.code .de) 0b1010
  | .dcxD => fieldsRp 0b00 (RegPair.code .de) 0b1011
  | .inrE => fields 0b00 (Reg8.code .e) 0b100
  | .dcrE => fields 0b00 (Reg8.code .e) 0b101
  | .mviE _ => fields 0b00 (Reg8.code .e) 0b110
  | .rar => 0x1F
  | .undocumented20 => 0x20
  | .lxiH _ => fieldsRp 0b00 (RegPair.code .hl) 0b0001
  | .shld _ => 0x22
  | .inxH => fieldsRp 0b00 (RegPair.code .hl) 0b0011
  | .inrH => fields 0b00 (Reg8.code .h) 0b100
  | .dcrH => fields 0b00 (Reg8.code .h) 0b101
  | .mviH _ => fields 0b00 (Reg8.code .h) 0b110
  | .daa => 0x27
  | .undocumented28 => 0x28
  | .dadH => fieldsRp 0b00 (RegPair.code .hl) 0b1001
  | .lhld _ => 0x2A
  | .dcxH => fieldsRp 0b00 (RegPair.code .hl) 0b1011
  | .inrL => fields 0b00 (Reg8.code .l) 0b100
  | .dcrL => fields 0b00 (Reg8.code .l) 0b101
  | .mviL _ => fields 0b00 (Reg8.code .l) 0b110
  | .cma => 0x2F
  | .undocumented30 => 0x30
  | .lxiSp _ => fieldsRp 0b00 (RegPair.code .sp) 0b0001
  | .sta _ => 0x32
  | .inxSp => fieldsRp 0b00 (RegPair.code .sp) 0b0011
  | .inrM => fields 0b00 (codeM) 0b100
  | .dcrM => fields 0b00 (codeM) 0b101
  | .mviM _ => fields 0b00 (codeM) 0b110
  | .stc => 0x37
  | .undocumented38 => 0x38
  | .dadSp => fieldsRp 0b00 (RegPair.code .sp) 0b1001
  | .lda _ => 0x3A
  | .dcxSp => fieldsRp 0b00 (RegPair.code .sp) 0b1011
  | .inrA => fields 0b00 (Reg8.code .a) 0b100
  | .dcrA => fields 0b00 (Reg8.code .a) 0b101
  | .mviA _ => fields 0b00 (Reg8.code .a) 0b110
  | .cmc => 0x3F
  | .movBB => fields 0b01 (Reg8.code .b) (Reg8.code .b)
  | .movBC => fields 0b01 (Reg8.code .b) (Reg8.code .c)
  | .movBD => fields 0b01 (Reg8.code .b) (Reg8.code .d)
  | .movBE => fields 0b01 (Reg8.code .b) (Reg8.code .e)
  | .movBH => fields 0b01 (Reg8.code .b) (Reg8.code .h)
  | .movBL => fields 0b01 (Reg8.code .b) (Reg8.code .l)
  | .movBM => fields 0b01 (Reg8.code .b) (codeM)
  | .movBA => fields 0b01 (Reg8.code .b) (Reg8.code .a)
  | .movCB => fields 0b01 (Reg8.code .c) (Reg8.code .b)
  | .movCC => fields 0b01 (Reg8.code .c) (Reg8.code .c)
  | .movCD => fields 0b01 (Reg8.code .c) (Reg8.code .d)
  | .movCE => fields 0b01 (Reg8.code .c) (Reg8.code .e)
  | .movCH => fields 0b01 (Reg8.code .c) (Reg8.code .h)
  | .movCL => fields 0b01 (Reg8.code .c) (Reg8.code .l)
  | .movCM => fields 0b01 (Reg8.code .c) (codeM)
  | .movCA => fields 0b01 (Reg8.code .c) (Reg8.code .a)
  | .movDB => fields 0b01 (Reg8.code .d) (Reg8.code .b)
  | .movDC => fields 0b01 (Reg8.code .d) (Reg8.code .c)
  | .movDD => fields 0b01 (Reg8.code .d) (Reg8.code .d)
  | .movDE => fields 0b01 (Reg8.code .d) (Reg8.code .e)
  | .movDH => fields 0b01 (Reg8.code .d) (Reg8.code .h)
  | .movDL => fields 0b01 (Reg8.code .d) (Reg8.code .l)
  | .movDM => fields 0b01 (Reg8.code .d) (codeM)
  | .movDA => fields 0b01 (Reg8.code .d) (Reg8.code .a)
  | .movEB => fields 0b01 (Reg8.code .e) (Reg8.code .b)
  | .movEC => fields 0b01 (Reg8.code .e) (Reg8.code .c)
  | .movED => fields 0b01 (Reg8.code .e) (Reg8.code .d)
  | .movEE => fields 0b01 (Reg8.code .e) (Reg8.code .e)
  | .movEH => fields 0b01 (Reg8.code .e) (Reg8.code .h)
  | .movEL => fields 0b01 (Reg8.code .e) (Reg8.code .l)
  | .movEM => fields 0b01 (Reg8.code .e) (codeM)
  | .movEA => fields 0b01 (Reg8.code .e) (Reg8.code .a)
  | .movHB => fields 0b01 (Reg8.code .h) (Reg8.code .b)
  | .movHC => fields 0b01 (Reg8.code .h) (Reg8.code .c)
  | .movHD => fields 0b01 (Reg8.code .h) (Reg8.code .d)
  | .movHE => fields 0b01 (Reg8.code .h) (Reg8.code .e)
  | .movHH => fields 0b01 (Reg8.code .h) (Reg8.code .h)
  | .movHL => fields 0b01 (Reg8.code .h) (Reg8.code .l)
  | .movHM => fields 0b01 (Reg8.code .h) (codeM)
  | .movHA => fields 0b01 (Reg8.code .h) (Reg8.code .a)
  | .movLB => fields 0b01 (Reg8.code .l) (Reg8.code .b)
  | .movLC => fields 0b01 (Reg8.code .l) (Reg8.code .c)
  | .movLD => fields 0b01 (Reg8.code .l) (Reg8.code .d)
  | .movLE => fields 0b01 (Reg8.code .l) (Reg8.code .e)
  | .movLH => fields 0b01 (Reg8.code .l) (Reg8.code .h)
  | .movLL => fields 0b01 (Reg8.code .l) (Reg8.code .l)
  | .movLM => fields 0b01 (Reg8.code .l) (codeM)
  | .movLA => fields 0b01 (Reg8.code .l) (Reg8.code .a)
  | .movMB => fields 0b01 (codeM) (Reg8.code .b)
  | .movMC => fields 0b01 (codeM) (Reg8.code .c)
  | .movMD => fields 0b01 (codeM) (Reg8.code .d)
  | .movME => fields 0b01 (codeM) (Reg8.code .e)
  | .movMH => fields 0b01 (codeM) (Reg8.code .h)
  | .movML => fields 0b01 (codeM) (Reg8.code .l)
  | .hlt => 0x76
  | .movMA => fields 0b01 (codeM) (Reg8.code .a)
  | .movAB => fields 0b01 (Reg8.code .a) (Reg8.code .b)
  | .movAC => fields 0b01 (Reg8.code .a) (Reg8.code .c)
  | .movAD => fields 0b01 (Reg8.code .a) (Reg8.code .d)
  | .movAE => fields 0b01 (Reg8.code .a) (Reg8.code .e)
  | .movAH => fields 0b01 (Reg8.code .a) (Reg8.code .h)
  | .movAL => fields 0b01 (Reg8.code .a) (Reg8.code .l)
  | .movAM => fields 0b01 (Reg8.code .a) (codeM)
  | .movAA => fields 0b01 (Reg8.code .a) (Reg8.code .a)
  | .addB => fields 0b10 (AluOp.code .add) (Reg8.code .b)
  | .addC => fields 0b10 (AluOp.code .add) (Reg8.code .c)
  | .addD => fields 0b10 (AluOp.code .add) (Reg8.code .d)
  | .addE => fields 0b10 (AluOp.code .add) (Reg8.code .e)
  | .addH => fields 0b10 (AluOp.code .add) (Reg8.code .h)
  | .addL => fields 0b10 (AluOp.code .add) (Reg8.code .l)
  | .addM => fields 0b10 (AluOp.code .add) (codeM)
  | .addA => fields 0b10 (AluOp.code .add) (Reg8.code .a)
  | .adcB => fields 0b10 (AluOp.code .adc) (Reg8.code .b)
  | .adcC => fields 0b10 (AluOp.code .adc) (Reg8.code .c)
  | .adcD => fields 0b10 (AluOp.code .adc) (Reg8.code .d)
  | .adcE => fields 0b10 (AluOp.code .adc) (Reg8.code .e)
  | .adcH => fields 0b10 (AluOp.code .adc) (Reg8.code .h)
  | .adcL => fields 0b10 (AluOp.code .adc) (Reg8.code .l)
  | .adcM => fields 0b10 (AluOp.code .adc) (codeM)
  | .adcA => fields 0b10 (AluOp.code .adc) (Reg8.code .a)
  | .subB => fields 0b10 (AluOp.code .sub) (Reg8.code .b)
  | .subC => fields 0b10 (AluOp.code .sub) (Reg8.code .c)
  | .subD => fields 0b10 (AluOp.code .sub) (Reg8.code .d)
  | .subE => fields 0b10 (AluOp.code .sub) (Reg8.code .e)
  | .subH => fields 0b10 (AluOp.code .sub) (Reg8.code .h)
  | .subL => fields 0b10 (AluOp.code .sub) (Reg8.code .l)
  | .subM => fields 0b10 (AluOp.code .sub) (codeM)
  | .subA => fields 0b10 (AluOp.code .sub) (Reg8.code .a)
  | .sbbB => fields 0b10 (AluOp.code .sbb) (Reg8.code .b)
  | .sbbC => fields 0b10 (AluOp.code .sbb) (Reg8.code .c)
  | .sbbD => fields 0b10 (AluOp.code .sbb) (Reg8.code .d)
  | .sbbE => fields 0b10 (AluOp.code .sbb) (Reg8.code .e)
  | .sbbH => fields 0b10 (AluOp.code .sbb) (Reg8.code .h)
  | .sbbL => fields 0b10 (AluOp.code .sbb) (Reg8.code .l)
  | .sbbM => fields 0b10 (AluOp.code .sbb) (codeM)
  | .sbbA => fields 0b10 (AluOp.code .sbb) (Reg8.code .a)
  | .anaB => fields 0b10 (AluOp.code .ana) (Reg8.code .b)
  | .anaC => fields 0b10 (AluOp.code .ana) (Reg8.code .c)
  | .anaD => fields 0b10 (AluOp.code .ana) (Reg8.code .d)
  | .anaE => fields 0b10 (AluOp.code .ana) (Reg8.code .e)
  | .anaH => fields 0b10 (AluOp.code .ana) (Reg8.code .h)
  | .anaL => fields 0b10 (AluOp.code .ana) (Reg8.code .l)
  | .anaM => fields 0b10 (AluOp.code .ana) (codeM)
  | .anaA => fields 0b10 (AluOp.code .ana) (Reg8.code .a)
  | .xraB => fields 0b10 (AluOp.code .xra) (Reg8.code .b)
  | .xraC => fields 0b10 (AluOp.code .xra) (Reg8.code .c)
  | .xraD => fields 0b10 (AluOp.code .xra) (Reg8.code .d)
  | .xraE => fields 0b10 (AluOp.code .xra) (Reg8.code .e)
  | .xraH => fields 0b10 (AluOp.code .xra) (Reg8.code .h)
  | .xraL => fields 0b10 (AluOp.code .xra) (Reg8.code .l)
  | .xraM => fields 0b10 (AluOp.code .xra) (codeM)
  | .xraA => fields 0b10 (AluOp.code .xra) (Reg8.code .a)
  | .oraB => fields 0b10 (AluOp.code .ora) (Reg8.code .b)
  | .oraC => fields 0b10 (AluOp.code .ora) (Reg8.code .c)
  | .oraD => fields 0b10 (AluOp.code .ora) (Reg8.code .d)
  | .oraE => fields 0b10 (AluOp.code .ora) (Reg8.code .e)
  | .oraH => fields 0b10 (AluOp.code .ora) (Reg8.code .h)
  | .oraL => fields 0b10 (AluOp.code .ora) (Reg8.code .l)
  | .oraM => fields 0b10 (AluOp.code .ora) (codeM)
  | .oraA => fields 0b10 (AluOp.code .ora) (Reg8.code .a)
  | .cmpB => fields 0b10 (AluOp.code .cmp) (Reg8.code .b)
  | .cmpC => fields 0b10 (AluOp.code .cmp) (Reg8.code .c)
  | .cmpD => fields 0b10 (AluOp.code .cmp) (Reg8.code .d)
  | .cmpE => fields 0b10 (AluOp.code .cmp) (Reg8.code .e)
  | .cmpH => fields 0b10 (AluOp.code .cmp) (Reg8.code .h)
  | .cmpL => fields 0b10 (AluOp.code .cmp) (Reg8.code .l)
  | .cmpM => fields 0b10 (AluOp.code .cmp) (codeM)
  | .cmpA => fields 0b10 (AluOp.code .cmp) (Reg8.code .a)
  | .rnz => fields 0b11 (Cond.code .nz) 0b000
  | .popB => fieldsRp 0b11 (RegPair.code .bc) 0b0001
  | .jnz _ => fields 0b11 (Cond.code .nz) 0b010
  | .jmp _ => 0xC3
  | .cnz _ => fields 0b11 (Cond.code .nz) 0b100
  | .pushB => fieldsRp 0b11 (RegPair.code .bc) 0b0101
  | .adi _ => fields 0b11 (AluOp.code .add) 0b110
  | .rst0 => fields 0b11 0 0b111
  | .rz => fields 0b11 (Cond.code .z) 0b000
  | .ret => 0xC9
  | .jz _ => fields 0b11 (Cond.code .z) 0b010
  | .undocumentedCB => 0xCB
  | .cz _ => fields 0b11 (Cond.code .z) 0b100
  | .call _ => 0xCD
  | .aci _ => fields 0b11 (AluOp.code .adc) 0b110
  | .rst1 => fields 0b11 1 0b111
  | .rnc => fields 0b11 (Cond.code .nc) 0b000
  | .popD => fieldsRp 0b11 (RegPair.code .de) 0b0001
  | .jnc _ => fields 0b11 (Cond.code .nc) 0b010
  | .outPort _ => 0xD3
  | .cnc _ => fields 0b11 (Cond.code .nc) 0b100
  | .pushD => fieldsRp 0b11 (RegPair.code .de) 0b0101
  | .sui _ => fields 0b11 (AluOp.code .sub) 0b110
  | .rst2 => fields 0b11 2 0b111
  | .rc => fields 0b11 (Cond.code .c) 0b000
  | .undocumentedD9 => 0xD9
  | .jc _ => fields 0b11 (Cond.code .c) 0b010
  | .inPort _ => 0xDB
  | .cc _ => fields 0b11 (Cond.code .c) 0b100
  | .undocumentedDD => 0xDD
  | .sbi _ => fields 0b11 (AluOp.code .sbb) 0b110
  | .rst3 => fields 0b11 3 0b111
  | .rpo => fields 0b11 (Cond.code .po) 0b000
  | .popH => fieldsRp 0b11 (RegPair.code .hl) 0b0001
  | .jpo _ => fields 0b11 (Cond.code .po) 0b010
  | .xthl => 0xE3
  | .cpo _ => fields 0b11 (Cond.code .po) 0b100
  | .pushH => fieldsRp 0b11 (RegPair.code .hl) 0b0101
  | .ani _ => fields 0b11 (AluOp.code .ana) 0b110
  | .rst4 => fields 0b11 4 0b111
  | .rpe => fields 0b11 (Cond.code .pe) 0b000
  | .pchl => 0xE9
  | .jpe _ => fields 0b11 (Cond.code .pe) 0b010
  | .xchg => 0xEB
  | .cpe _ => fields 0b11 (Cond.code .pe) 0b100
  | .undocumentedED => 0xED
  | .xri _ => fields 0b11 (AluOp.code .xra) 0b110
  | .rst5 => fields 0b11 5 0b111
  | .rp => fields 0b11 (Cond.code .p) 0b000
  | .popPsw => fieldsRp 0b11 codePsw 0b0001
  | .jp _ => fields 0b11 (Cond.code .p) 0b010
  | .di => 0xF3
  | .cp _ => fields 0b11 (Cond.code .p) 0b100
  | .pushPsw => fieldsRp 0b11 codePsw 0b0101
  | .ori _ => fields 0b11 (AluOp.code .ora) 0b110
  | .rst6 => fields 0b11 6 0b111
  | .rm => fields 0b11 (Cond.code .m) 0b000
  | .sphl => 0xF9
  | .jm _ => fields 0b11 (Cond.code .m) 0b010
  | .ei => 0xFB
  | .cm _ => fields 0b11 (Cond.code .m) 0b100
  | .undocumentedFD => 0xFD
  | .cpi _ => fields 0b11 (AluOp.code .cmp) 0b110
  | .rst7 => fields 0b11 7 0b111

/-- The operand bytes after the opcode, the low byte of a 16-bit operand first (R71, R73). -/
def operandBytes : Instr → List Byte
  | .nop => []
  | .lxiB d16 => [loByte d16, hiByte d16]
  | .staxB => []
  | .inxB => []
  | .inrB => []
  | .dcrB => []
  | .mviB d8 => [d8]
  | .rlc => []
  | .undocumented08 => []
  | .dadB => []
  | .ldaxB => []
  | .dcxB => []
  | .inrC => []
  | .dcrC => []
  | .mviC d8 => [d8]
  | .rrc => []
  | .undocumented10 => []
  | .lxiD d16 => [loByte d16, hiByte d16]
  | .staxD => []
  | .inxD => []
  | .inrD => []
  | .dcrD => []
  | .mviD d8 => [d8]
  | .ral => []
  | .undocumented18 => []
  | .dadD => []
  | .ldaxD => []
  | .dcxD => []
  | .inrE => []
  | .dcrE => []
  | .mviE d8 => [d8]
  | .rar => []
  | .undocumented20 => []
  | .lxiH d16 => [loByte d16, hiByte d16]
  | .shld a16 => [loByte a16, hiByte a16]
  | .inxH => []
  | .inrH => []
  | .dcrH => []
  | .mviH d8 => [d8]
  | .daa => []
  | .undocumented28 => []
  | .dadH => []
  | .lhld a16 => [loByte a16, hiByte a16]
  | .dcxH => []
  | .inrL => []
  | .dcrL => []
  | .mviL d8 => [d8]
  | .cma => []
  | .undocumented30 => []
  | .lxiSp d16 => [loByte d16, hiByte d16]
  | .sta a16 => [loByte a16, hiByte a16]
  | .inxSp => []
  | .inrM => []
  | .dcrM => []
  | .mviM d8 => [d8]
  | .stc => []
  | .undocumented38 => []
  | .dadSp => []
  | .lda a16 => [loByte a16, hiByte a16]
  | .dcxSp => []
  | .inrA => []
  | .dcrA => []
  | .mviA d8 => [d8]
  | .cmc => []
  | .movBB => []
  | .movBC => []
  | .movBD => []
  | .movBE => []
  | .movBH => []
  | .movBL => []
  | .movBM => []
  | .movBA => []
  | .movCB => []
  | .movCC => []
  | .movCD => []
  | .movCE => []
  | .movCH => []
  | .movCL => []
  | .movCM => []
  | .movCA => []
  | .movDB => []
  | .movDC => []
  | .movDD => []
  | .movDE => []
  | .movDH => []
  | .movDL => []
  | .movDM => []
  | .movDA => []
  | .movEB => []
  | .movEC => []
  | .movED => []
  | .movEE => []
  | .movEH => []
  | .movEL => []
  | .movEM => []
  | .movEA => []
  | .movHB => []
  | .movHC => []
  | .movHD => []
  | .movHE => []
  | .movHH => []
  | .movHL => []
  | .movHM => []
  | .movHA => []
  | .movLB => []
  | .movLC => []
  | .movLD => []
  | .movLE => []
  | .movLH => []
  | .movLL => []
  | .movLM => []
  | .movLA => []
  | .movMB => []
  | .movMC => []
  | .movMD => []
  | .movME => []
  | .movMH => []
  | .movML => []
  | .hlt => []
  | .movMA => []
  | .movAB => []
  | .movAC => []
  | .movAD => []
  | .movAE => []
  | .movAH => []
  | .movAL => []
  | .movAM => []
  | .movAA => []
  | .addB => []
  | .addC => []
  | .addD => []
  | .addE => []
  | .addH => []
  | .addL => []
  | .addM => []
  | .addA => []
  | .adcB => []
  | .adcC => []
  | .adcD => []
  | .adcE => []
  | .adcH => []
  | .adcL => []
  | .adcM => []
  | .adcA => []
  | .subB => []
  | .subC => []
  | .subD => []
  | .subE => []
  | .subH => []
  | .subL => []
  | .subM => []
  | .subA => []
  | .sbbB => []
  | .sbbC => []
  | .sbbD => []
  | .sbbE => []
  | .sbbH => []
  | .sbbL => []
  | .sbbM => []
  | .sbbA => []
  | .anaB => []
  | .anaC => []
  | .anaD => []
  | .anaE => []
  | .anaH => []
  | .anaL => []
  | .anaM => []
  | .anaA => []
  | .xraB => []
  | .xraC => []
  | .xraD => []
  | .xraE => []
  | .xraH => []
  | .xraL => []
  | .xraM => []
  | .xraA => []
  | .oraB => []
  | .oraC => []
  | .oraD => []
  | .oraE => []
  | .oraH => []
  | .oraL => []
  | .oraM => []
  | .oraA => []
  | .cmpB => []
  | .cmpC => []
  | .cmpD => []
  | .cmpE => []
  | .cmpH => []
  | .cmpL => []
  | .cmpM => []
  | .cmpA => []
  | .rnz => []
  | .popB => []
  | .jnz a16 => [loByte a16, hiByte a16]
  | .jmp a16 => [loByte a16, hiByte a16]
  | .cnz a16 => [loByte a16, hiByte a16]
  | .pushB => []
  | .adi d8 => [d8]
  | .rst0 => []
  | .rz => []
  | .ret => []
  | .jz a16 => [loByte a16, hiByte a16]
  | .undocumentedCB => []
  | .cz a16 => [loByte a16, hiByte a16]
  | .call a16 => [loByte a16, hiByte a16]
  | .aci d8 => [d8]
  | .rst1 => []
  | .rnc => []
  | .popD => []
  | .jnc a16 => [loByte a16, hiByte a16]
  | .outPort p8 => [p8]
  | .cnc a16 => [loByte a16, hiByte a16]
  | .pushD => []
  | .sui d8 => [d8]
  | .rst2 => []
  | .rc => []
  | .undocumentedD9 => []
  | .jc a16 => [loByte a16, hiByte a16]
  | .inPort p8 => [p8]
  | .cc a16 => [loByte a16, hiByte a16]
  | .undocumentedDD => []
  | .sbi d8 => [d8]
  | .rst3 => []
  | .rpo => []
  | .popH => []
  | .jpo a16 => [loByte a16, hiByte a16]
  | .xthl => []
  | .cpo a16 => [loByte a16, hiByte a16]
  | .pushH => []
  | .ani d8 => [d8]
  | .rst4 => []
  | .rpe => []
  | .pchl => []
  | .jpe a16 => [loByte a16, hiByte a16]
  | .xchg => []
  | .cpe a16 => [loByte a16, hiByte a16]
  | .undocumentedED => []
  | .xri d8 => [d8]
  | .rst5 => []
  | .rp => []
  | .popPsw => []
  | .jp a16 => [loByte a16, hiByte a16]
  | .di => []
  | .cp a16 => [loByte a16, hiByte a16]
  | .pushPsw => []
  | .ori d8 => [d8]
  | .rst6 => []
  | .rm => []
  | .sphl => []
  | .jm a16 => [loByte a16, hiByte a16]
  | .ei => []
  | .cm a16 => [loByte a16, hiByte a16]
  | .undocumentedFD => []
  | .cpi d8 => [d8]
  | .rst7 => []

/-- The bytes of an instruction, in address order (R70, R71). -/
def encode (i : Instr) : List Byte := opcode i :: operandBytes i

end Sys2Proof
end

