-- ==== Sys2Proof/Config.lean ====
section
/-!
DEFINITION. The implementation parameters of spec/00_scope.md R5: the constants of this hardware,
and the record of the three Boolean parameters that a model takes as arguments.
The fourth parameter, `ROM`, is the argument of `Machine.State.launch`.
-/

namespace Sys2Proof

namespace Config

/-- `MEM_SIZE`: the memory array has exactly 16384 cells (R5, R34). -/
def memSize : Nat := 16384

/-- `ADDR_MASK`: the 14 used address bits (R5, R52). -/
def addrMask : Addr := 0x3FFF#16

/-- The size of the ROM image, loaded at `[0x0000, 0x2000)` (R5, R58). -/
def romSize : Nat := 8192

/-- `CLOCK_HZ`: 2 MHz nominal (R5). -/
def clockHz : Nat := 2000000

/-- `HALF_FRAME = CLOCK_HZ / 120`, integer division, `= 16666` (R5, decision D13). (`test_half_frame` checks the quotient.) -/
def halfFrame : Nat := 16666

/-- What a memory cell that the list does not name reads as: zero.
For the RAM that is the launch value the spec gives (R57, R58).
For the ROM area it is a ROM image of zeros. DESIGN CHOICE (log entry 3). -/
def unlistedByte : Byte := 0#8

end Config

/-- The three Boolean parameters of R5. They are fixed for a whole run (R300). -/
structure Params where
  /-- `ADMIT_UNLISTED`: MVI M, CMC, DI and SPHL execute (R78, D1). -/
  admitUnlisted : Bool
  /-- `INTA_CLEARS_IE`: accepting an interrupt clears `interrupts_enabled` (R278, D12). -/
  intaClearsIe : Bool
  /-- `IN1_BIT3`: bit 3 of IN 1, OPEN (R245, D16). -/
  in1Bit3 : Bool
  deriving DecidableEq, Repr

/-- The defaults: R5 gives `false` for the first two. `IN1_BIT3` has no default in R5;
0 is the value spec/95_test_vectors.md runs with. DESIGN CHOICE (log entry 2). -/
def Params.default : Params :=
  { admitUnlisted := false, intaClearsIe := false, in1Bit3 := false }

end Sys2Proof
end

