-- ==== Sys2Proof/Machine/Memory.lean ====
section
/-!
DEFINITION. The memory array (spec/10_state.md R34, spec/20_memory.md R50 to R58) as plain data: a list of
(cell, byte) pairs in one canonical form.
-/

namespace Sys2Proof.Machine

/-- The cells that differ from `Config.unlistedByte`, by strictly rising cell number (log entry 3). -/
abbrev Memory := List Host.Cell

/-- The canonical form from cell `from` on: cells rise strictly, lie inside the array, and hold no byte equal
to what an unlisted cell reads as. -/
def Memory.wfFrom (start : Nat) : Memory → Bool
  | [] => true
  | (k, v) :: m => decide (start ≤ k) && decide (k < Config.memSize) && (v != Config.unlistedByte)
      && Memory.wfFrom (k + 1) m

/-- The canonical form of a memory. -/
def Memory.wf (m : Memory) : Bool := Memory.wfFrom 0 m

/-- `mem[k]` for a cell number `k` (R34). -/
def Memory.read : Memory → Nat → Byte
  | [], _ => Config.unlistedByte
  | (k, v) :: m, a => if k = a then v else Memory.read m a

/-- Put a cell in front of a list whose cells are all higher, keeping the canonical form. -/
def Memory.cons (a : Nat) (v : Byte) (m : Memory) : Memory :=
  if v = Config.unlistedByte then m else (a, v) :: m

/-- `mem[a] <- v` for a cell number `a` (R34). -/
def Memory.write : Memory → Nat → Byte → Memory
  | [], a, v => Memory.cons a v []
  | (k, w) :: m, a, v =>
    if a < k then Memory.cons a v ((k, w) :: m)
    else if a = k then Memory.cons a v m
    else (k, w) :: Memory.write m a v

/-- The memory that holds the bytes of an image from cell `a` on, and zero elsewhere (R58). -/
def Memory.ofImage : Nat → List Byte → Memory
  | _, [] => []
  | a, v :: vs => Memory.cons a v (Memory.ofImage (a + 1) vs)

end Sys2Proof.Machine
end

