-- ==== Sys2Proof/Machine/State.lean ====
section
/-!
DEFINITION. The machine state (spec/10_state.md R20 to R42) as one record of plain data, the reasons a step
can stop, and the state right after reset (spec/70_reset_and_hazards.md R300).
-/

namespace Sys2Proof.Machine

/-- The five flag bits (R24, R26). -/
structure Flags where
  /-- Sign: bit 7 of the result (R24). -/
  s : Bool
  /-- Zero (R24). -/
  z : Bool
  /-- Parity, even = 1 (R24). -/
  p : Bool
  /-- Carry or borrow; the source's `Y` (R24). -/
  cy : Bool
  /-- Auxiliary carry: storage only (R26). -/
  ac : Bool
  deriving DecidableEq, Repr

/-- The external shift device (R31). -/
structure Shifter where
  hi : Byte
  lo : Byte
  offset : BitVec 3
  deriving DecidableEq, Repr

/-- The six host inputs (R32). -/
structure Buttons where
  coin : Bool
  p1Start : Bool
  p2Start : Bool
  p1Left : Bool
  p1Right : Bool
  p1Fire : Bool
  deriving DecidableEq, Repr

/-- The reason recorded by a halt (R37, R272): the opcode or port byte, the number of instructions retired
before the failing one, and the address of the failing opcode. -/
inductive HaltReason where
  | unknownOpcode (opcode : Byte) (icount : Counter) (pc : Addr)
  | unknownInPort (port : Byte) (icount : Counter) (pc : Addr)
  | unknownOutPort (port : Byte) (icount : Counter) (pc : Addr)
  deriving DecidableEq, Repr

/-- The cause codes of R272. -/
def HaltReason.code : HaltReason → Nat
  | .unknownOpcode _ _ _ => 1
  | .unknownInPort _ _ _ => 2
  | .unknownOutPort _ _ _ => 3

/-- The complete machine state (R42), and the run's parameters (R5, R38; log entry 1). -/
structure State where
  a : Byte
  b : Byte
  c : Byte
  d : Byte
  e : Byte
  h : Byte
  l : Byte
  /-- The stack pointer (R22). -/
  sp : Addr
  /-- The program counter (R23): between steps, the address of the next opcode. -/
  pc : Addr
  flags : Flags
  /-- `interrupts_enabled` (R28). -/
  interruptsEnabled : Bool
  /-- `next_wakeup` (R29). -/
  nextWakeup : Counter
  /-- `next_interrupt_op` (R30). -/
  nextInterruptOp : Byte
  shifter : Shifter
  buttons : Buttons
  /-- Sound latch 1 (R33). -/
  port3 : Byte
  /-- Sound latch 2 (R33). -/
  port5 : Byte
  /-- Simulated clock ticks (R35). -/
  cycle : Counter
  /-- Retired instructions (R36). -/
  icount : Counter
  /-- The terminal fault, if the run has halted (R37). -/
  halted : Option HaltReason
  /-- The 16384 byte cells (R34). -/
  mem : Memory
  /-- The parameters, fixed for the run (R300). No step writes them. -/
  params : Params
  deriving DecidableEq, Repr

/-- Why a step stops. -/
inductive Fault where
  /-- Raised by `step` alone, on a state whose `halted` is `some reason`: "a state with halted = some(_) has no
  further step" (R37, R276). Safe: the spec gives such a state no next state either. -/
  | halted (reason : HaltReason)
  deriving DecidableEq, Repr

/-- Why an instruction has no meaning. -/
inductive Refusal where
  /-- Raised by `exec` alone, for an instruction of the opcode table that has no meaning yet. Safe: the model stops
  where the hardware goes on. No arm of `exec` answers it now. -/
  | notModelled (mnemonic : String)
  deriving DecidableEq, Repr

/-- The state at creation (R300, R42) for the parameters `p` and the ROM image `rom`, of which the first
8192 bytes are loaded at `[0x0000, 0x2000)` (R58). -/
def State.launch (p : Params) (rom : List Byte) : State where
  a := 0
  b := 0
  c := 0
  d := 0
  e := 0
  h := 0
  l := 0
  sp := 0
  pc := 0
  flags := { s := false, z := false, p := false, cy := false, ac := false }
  interruptsEnabled := false
  nextWakeup := BitVec.ofNat 64 Config.halfFrame
  nextInterruptOp := 0xCF
  shifter := { hi := 0, lo := 0, offset := 0 }
  buttons := { coin := false, p1Start := false, p2Start := false, p1Left := false, p1Right := false,
               p1Fire := false }
  port3 := 0
  port5 := 0
  cycle := 0
  icount := 0
  halted := none
  mem := Memory.ofImage 0 (rom.take Config.romSize)
  params := p

/-- The machine right after reset: the launch state with the default parameters and no program in the ROM
(log entries 2 and 3). -/
def State.reset : State := State.launch Params.default []

end Sys2Proof.Machine
end

