-- ==== Sys2Proof/Machine/Ops.lean ====
section
/-!
DEFINITION. The named operations over memory, stack, fetch and retirement that the meanings share, and the two
ways control leaves the program's order: the halt (spec/60_exceptions.md R271) and interrupt entry (R278), with the
return beside them (R283).
-/

namespace Sys2Proof.Machine

/-- What a meaning answers. -/
abbrev Out := Host.Outcome State Fault Refusal

/-- The cell an address reaches: `addr & ADDR_MASK` (R52, R53). -/
def cellOf (addr : Addr) : Nat := (addr &&& Config.addrMask).toNat

/-- `MemRead(addr, 1)` (R52). -/
def memRead (addr : Addr) (s : State) : Byte := s.mem.read (cellOf addr)

/-- `MemWrite(addr, 1, v)` (R53). -/
def memWrite (addr : Addr) (v : Byte) (s : State) : State :=
  { s with mem := s.mem.write (cellOf addr) v }

/-- Bytes stored at successive addresses. -/
def placeBytes (addr : Addr) (bytes : List Byte) (s : State) : State :=
  match bytes with
  | [] => s
  | v :: vs => placeBytes (addr + 1) vs (memWrite addr v s)

/-- `MemRead(addr, 2)`: the low byte at `addr`, the high byte at `trunc_16(addr + 1)` (R55). -/
def memRead16 (addr : Addr) (s : State) : Addr := word16 (memRead (addr + 1) s) (memRead addr s)

/-- `MemWrite(addr, 2, v)`: the low byte first (R55). -/
def memWrite16 (addr : Addr) (v : Addr) (s : State) : State :=
  memWrite (addr + 1) (hiByte v) (memWrite addr (loByte v) s)

/-- One byte of `Push16`: decrement SP, then write (R56). -/
def push8 (v : Byte) (s : State) : State := memWrite (s.sp - 1) v { s with sp := s.sp - 1 }

/-- `Push16(v)`: the high byte first (R56). -/
def push16 (v : Addr) (s : State) : State := push8 (loByte v) (push8 (hiByte v) s)

/-- One byte of `Pop16`: read, then increment SP (R56). -/
def pop8 (s : State) : Byte × State := (memRead s.sp s, { s with sp := s.sp + 1 })

/-- `Pop16()`: the low byte first (R56). -/
def pop16 (s : State) : Addr × State :=
  let lo := pop8 s
  let hi := pop8 lo.2
  (word16 hi.1 lo.1, hi.2)

/-- `Fetch8()`: read at PC, then increment PC (R72). -/
def fetch8 (s : State) : Byte × State := (memRead s.pc s, { s with pc := s.pc + 1 })

/-- The instruction at PC: the opcode byte and up to two operand bytes, each by `Fetch8` (R72, R73, R74).
Bytes past the instruction's length are read and ignored, which nothing can observe (R61; log entry 10). -/
def fetchInstr (s : State) : Instr :=
  let op := fetch8 s
  let b1 := fetch8 op.2
  let b2 := fetch8 b1.2
  decodeBytes op.1 b1.1 b2.1

/-- PC after `n` calls of `Fetch8` (R23, R72). -/
def advance (n : Nat) (s : State) : State := { s with pc := s.pc + BitVec.ofNat 16 n }

/-- `pc <- target` (R8). -/
def jumpTo (target : Addr) (s : State) : State := { s with pc := target }

/-- Retirement at the end of the engine phase: `cycle` gains the cost and `icount` gains 1 (R74, R310). -/
def retire (cost : Nat) (s : State) : Out :=
  .next { s with cycle := s.cycle + BitVec.ofNat 64 cost, icount := s.icount + 1 }

/-- `raise Halt(reason)` on the state at the start of the engine phase (R271): nothing of the engine phase is kept, so
PC is still the address of the failing opcode, and `halted` records the reason (log entries 4 and 5). -/
def raiseHalt (reason : HaltReason) (s : State) : Out := .next { s with halted := some reason }

/-- `raise Halt(UnknownOpcode(op, icount, pc0))` (R74, R271). -/
def haltUnknownOpcode (op : Byte) (s : State) : Out :=
  raiseHalt (.unknownOpcode op s.icount s.pc) s

/-- The admission test of an unlisted opcode (R74, R78): run `admitted` if `ADMIT_UNLISTED`, else halt. -/
def ifUnlistedAdmitted (op : Byte) (s : State) (admitted : Out) : Out :=
  if s.params.admitUnlisted then admitted else haltUnknownOpcode op s

/-- `Push16(PC); pc <- target`: shared by CALL, Ccc, RST and interrupt entry (R202, R203, R208, R278). -/
def pushPcAndJump (target : Addr) (s : State) : State := jumpTo target (push16 s.pc s)

/-- The target of RST n: `zext_16(n * 8)` (R84, R208). -/
def restartVector (n : Nat) : Addr := trunc16 (n * 8)

/-- Interrupt entry, the only trap entry of this hardware (R278, R282): the RST opcode `op` runs with nothing fetched, so
the pushed PC is the address of the next program opcode. -/
def inject (op : Byte) (s : State) : State :=
  let t := pushPcAndJump (restartVector (op.extractLsb' 3 3).toNat) s
  { t with
    interruptsEnabled := t.interruptsEnabled && !t.params.intaClearsIe
    cycle := t.cycle + BitVec.ofNat 64 11
    icount := t.icount + 1 }

/-- `pc <- Pop16()`: the return from a call or an interrupt handler (R204, R283). It does not touch
`interrupts_enabled`. -/
def returnToPopped (s : State) : State :=
  let v := pop16 s
  jumpTo v.1 v.2

end Sys2Proof.Machine
end

