-- ==== Sys2Proof/Machine/Flags.lean ====
section
/-!
DEFINITION. Every flag computation the spec gives: S, Z and P of a result (spec/10_state.md R24), the four ALU
functions (spec/41_arithmetic_logic.md R164 to R167), the PSW byte (R27) and the condition tests
(spec/30_encoding.md R81).
-/

namespace Sys2Proof.Machine

/-- `parity(r) = 1 iff popcount(r) is even` (R9, R24). -/
def parity (r : Byte) : Bool := popcount r % 2 == 0

/-- `szp(r)`: S, Z and P from an 8-bit result; CY and AC are kept (R24). -/
def szp (r : Byte) (f : Flags) : Flags :=
  { f with s := r.getLsbD 7, z := r == 0#8, p := parity r }

/-- What `add8`, `sub8` and `logic8` return: the result and the carry. S, Z and P follow from the result. -/
structure AluResult where
  r : Byte
  cy : Bool
  deriving DecidableEq, Repr

/-- `add8(a, b, cin)` (R164). -/
def add8 (a b : Byte) (cin : Bool) : AluResult :=
  let t := a.toNat + b.toNat + cin.toNat
  { r := trunc8 t, cy := t.testBit 8 }

/-- `sub8(a, b, bin)` (R165): the carry is the unsigned borrow. -/
def sub8 (a b : Byte) (bin : Bool) : AluResult :=
  { r := trunc8 (a.toNat + 256 - b.toNat - bin.toNat)
    cy := decide (b.toNat + bin.toNat > a.toNat) }

/-- `logic8(r)`: the carry is cleared (R166). -/
def logic8 (r : Byte) : AluResult := { r := r, cy := false }

/-- The eight ALU operations of the `ooo` field (R82), each with its function and carry-in (R164 to R166). -/
def aluResult (op : AluOp) (a src : Byte) (cy : Bool) : AluResult :=
  match op with
  | .add => add8 a src false
  | .adc => add8 a src cy
  | .sub => sub8 a src false
  | .sbb => sub8 a src cy
  | .ana => logic8 (a &&& src)
  | .xra => logic8 (a ^^^ src)
  | .ora => logic8 (a ||| src)
  | .cmp => sub8 a src false

/-- The flags an ALU result writes: S, Z, P and CY; never AC (R25, R26). -/
def aluFlags (x : AluResult) (f : Flags) : Flags := { szp x.r f with cy := x.cy }

/-- `step8(v, +1)`, the result (R167). -/
def stepUp (v : Byte) : Byte := trunc8 (256 + v.toNat + 1)

/-- `step8(v, -1)`, the result (R167). -/
def stepDown (v : Byte) : Byte := trunc8 (256 + v.toNat - 1)

/-- The PSW flag byte: `S<<7 | Z<<6 | AC<<4 | P<<2 | 0x02 | CY` (R27). Bits 3 and 5 are 0 (D10; log entry 7). -/
def packFlags (f : Flags) : Byte :=
  bitAt f.s 7 ||| bitAt f.z 6 ||| bitAt f.ac 4 ||| bitAt f.p 2 ||| 0x02#8 ||| bitAt f.cy 0

/-- The flags POP PSW reads from a byte; bits 5, 3 and 1 are ignored (R27). -/
def unpackFlags (v : Byte) : Flags :=
  { s := v.getLsbD 7, z := v.getLsbD 6, ac := v.getLsbD 4, p := v.getLsbD 2, cy := v.getLsbD 0 }

/-- `cond(ccc)` (R81). -/
def condHolds (cond : Cond) (f : Flags) : Bool :=
  match cond with
  | .nz => !f.z
  | .z => f.z
  | .nc => !f.cy
  | .c => f.cy
  | .po => !f.p
  | .pe => f.p
  | .p => !f.s
  | .m => f.s

end Sys2Proof.Machine
end

