-- ==== Sys2Proof/Machine/Operands.lean ====
section
/-!
DEFINITION. Every operand form: the seven registers (spec/10_state.md R20, spec/30_encoding.md R75), the register pairs
(R21, R76), and the memory operand M (R54, R75).
-/

namespace Sys2Proof.Machine

/-- `reg[sss]`: the value of a register (R20, R75). -/
def readReg (r : Reg8) (s : State) : Byte :=
  match r with
  | .b => s.b
  | .c => s.c
  | .d => s.d
  | .e => s.e
  | .h => s.h
  | .l => s.l
  | .a => s.a

/-- `reg[ddd] <- v` (R20, R75). -/
def writeReg (r : Reg8) (v : Byte) (s : State) : State :=
  match r with
  | .b => { s with b := v }
  | .c => { s with c := v }
  | .d => { s with d := v }
  | .e => { s with e := v }
  | .h => { s with h := v }
  | .l => { s with l := v }
  | .a => { s with a := v }

/-- The value of a pair, high register first; SP for code 11 (R21, R76). -/
def readPair (p : RegPair) (s : State) : Addr :=
  match p with
  | .bc => word16 s.b s.c
  | .de => word16 s.d s.e
  | .hl => word16 s.h s.l
  | .sp => s.sp

/-- `rp <- v`: the high register takes `v[15:8]`, the low one `v[7:0]` (R8, R21). -/
def writePair (p : RegPair) (v : Addr) (s : State) : State :=
  match p with
  | .bc => { s with b := hiByte v, c := loByte v }
  | .de => { s with d := hiByte v, e := loByte v }
  | .hl => { s with h := hiByte v, l := loByte v }
  | .sp => { s with sp := v }

/-- The pair a PUSH or POP names (R76). -/
def pushPairReg : PushPair → RegPair
  | .bc => .bc
  | .de => .de
  | .hl => .hl

/-- The pair an LDAX or STAX names by `r1` (R76). -/
def indexPairReg : IndexPair → RegPair
  | .bc => .bc
  | .de => .de

/-- The address of the memory operand M: HL (R54, R75). -/
def addrM (s : State) : Addr := readPair .hl s

/-- The value of the memory operand M: `MemRead(HL, 1)` (R54, R75). -/
def readM (s : State) : Byte := memRead (addrM s) s

/-- `MemWrite(HL, 1, v)` (R54). -/
def writeM (v : Byte) (s : State) : State := memWrite (addrM s) v s

end Sys2Proof.Machine
end

