-- ==== Sys2Proof/Machine/Arithmetic.lean ====
section
/-!
DEFINITION. The arithmetic, logic, increment, rotate and flag instructions (spec/41_arithmetic_logic.md R140 to R194): the
shared operation of each form, and below them one meaning per instruction. None of them writes AC (R26).
-/

namespace Sys2Proof.Machine

/-- `(A, CY, S, Z, P) <- op(A, src, CY)`; CMP and CPI do not write A (R140 to R163). -/
def applyAlu (op : AluOp) (src : Byte) (s : State) : State :=
  let x := aluResult op s.a src s.flags.cy
  { s with
    a := if op = .cmp then s.a else x.r
    flags := aluFlags x s.flags }

/-- The register form: F1, 4 cycles. -/
def aluReg (op : AluOp) (r : Reg8) (s : State) : Out := retire 4 (applyAlu op (readReg r s) (advance 1 s))

/-- The M form: F1, 7 cycles. -/
def aluMem (op : AluOp) (s : State) : Out := retire 7 (applyAlu op (readM s) (advance 1 s))

/-- The immediate form: F2, 7 cycles. -/
def aluImm (op : AluOp) (d8 : Byte) (s : State) : Out := retire 7 (applyAlu op d8 (advance 2 s))

/-- Write S, Z and P from a result, and keep CY and AC (R167). -/
def setSzp (r : Byte) (s : State) : State := { s with flags := szp r s.flags }

/-- INR r (R170). -/
def inrReg (reg : Reg8) (s : State) : Out :=
  let r := stepUp (readReg reg s)
  retire 5 (setSzp r (writeReg reg r (advance 1 s)))

/-- INR M (R171). -/
def inrMem (s : State) : Out :=
  let r := stepUp (readM s)
  retire 10 (setSzp r (writeM r (advance 1 s)))

/-- DCR r (R172). -/
def dcrReg (reg : Reg8) (s : State) : Out :=
  let r := stepDown (readReg reg s)
  retire 5 (setSzp r (writeReg reg r (advance 1 s)))

/-- DCR M (R173). -/
def dcrMem (s : State) : Out :=
  let r := stepDown (readM s)
  retire 10 (setSzp r (writeM r (advance 1 s)))

/-- INX rp (R174). -/
def inxPair (p : RegPair) (s : State) : Out :=
  retire 5 (writePair p (trunc16 ((readPair p s).toNat + 1)) (advance 1 s))

/-- DCX rp (R175). -/
def dcxPair (p : RegPair) (s : State) : Out :=
  retire 5 (writePair p (trunc16 (65535 + (readPair p s).toNat)) (advance 1 s))

/-- Write CY and keep the other flags. -/
def setCy (cy : Bool) (s : State) : State := { s with flags := { s.flags with cy := cy } }

/-- DAD rp (R176): CY is bit 16 of the sum; S, Z and P are kept. -/
def dadPair (p : RegPair) (s : State) : Out :=
  let t := (readPair .hl s).toNat + (readPair p s).toNat
  retire 10 (setCy (t.testBit 16) (writePair .hl (trunc16 t) (advance 1 s)))

/-- CMA (R180). -/
def complementA (s : State) : Out := retire 4 (writeReg .a (~~~s.a) (advance 1 s))

/-- DAA, a no-op here (R182). -/
def decimalAdjust (s : State) : Out := retire 4 (advance 1 s)

/-- STC (R183). -/
def setCarry (s : State) : Out := retire 4 (setCy true (advance 1 s))

/-- CMC, unlisted (R184). -/
def complementCarry (s : State) : Out :=
  ifUnlistedAdmitted 0x3F s (retire 4 (setCy (!s.flags.cy) (advance 1 s)))

/-- RLC (R190). -/
def rotateLeft (s : State) : Out :=
  let b := s.a.getLsbD 7
  retire 4 (setCy b (writeReg .a (s.a <<< 1 ||| bitAt b 0) (advance 1 s)))

/-- RRC (R191). -/
def rotateRight (s : State) : Out :=
  let b := s.a.getLsbD 0
  retire 4 (setCy b (writeReg .a (s.a >>> 1 ||| bitAt b 7) (advance 1 s)))

/-- RAL (R192). -/
def rotateLeftCarry (s : State) : Out :=
  let b := s.a.getLsbD 7
  retire 4 (setCy b (writeReg .a (s.a <<< 1 ||| bitAt s.flags.cy 0) (advance 1 s)))

/-- RAR (R193). -/
def rotateRightCarry (s : State) : Out :=
  let b := s.a.getLsbD 0
  retire 4 (setCy b (writeReg .a (s.a >>> 1 ||| bitAt s.flags.cy 7) (advance 1 s)))

/-- ADD B (R140). -/
def execAddB (s : State) : Out := aluReg .add .b s

/-- ADD C (R140). -/
def execAddC (s : State) : Out := aluReg .add .c s

/-- ADD D (R140). -/
def execAddD (s : State) : Out := aluReg .add .d s

/-- ADD E (R140). -/
def execAddE (s : State) : Out := aluReg .add .e s

/-- ADD H (R140). -/
def execAddH (s : State) : Out := aluReg .add .h s

/-- ADD L (R140). -/
def execAddL (s : State) : Out := aluReg .add .l s

/-- ADD A (R140). -/
def execAddA (s : State) : Out := aluReg .add .a s

/-- ADD M (R141). -/
def execAddM (s : State) : Out := aluMem .add s

/-- ADI d8 (R142). -/
def execAdi (d8 : Byte) (s : State) : Out := aluImm .add d8 s

/-- ADC B (R143). -/
def execAdcB (s : State) : Out := aluReg .adc .b s

/-- ADC C (R143). -/
def execAdcC (s : State) : Out := aluReg .adc .c s

/-- ADC D (R143). -/
def execAdcD (s : State) : Out := aluReg .adc .d s

/-- ADC E (R143). -/
def execAdcE (s : State) : Out := aluReg .adc .e s

/-- ADC H (R143). -/
def execAdcH (s : State) : Out := aluReg .adc .h s

/-- ADC L (R143). -/
def execAdcL (s : State) : Out := aluReg .adc .l s

/-- ADC A (R143). -/
def execAdcA (s : State) : Out := aluReg .adc .a s

/-- ADC M (R144). -/
def execAdcM (s : State) : Out := aluMem .adc s

/-- ACI d8 (R145). -/
def execAci (d8 : Byte) (s : State) : Out := aluImm .adc d8 s

/-- SUB B (R146). -/
def execSubB (s : State) : Out := aluReg .sub .b s

/-- SUB C (R146). -/
def execSubC (s : State) : Out := aluReg .sub .c s

/-- SUB D (R146). -/
def execSubD (s : State) : Out := aluReg .sub .d s

/-- SUB E (R146). -/
def execSubE (s : State) : Out := aluReg .sub .e s

/-- SUB H (R146). -/
def execSubH (s : State) : Out := aluReg .sub .h s

/-- SUB L (R146). -/
def execSubL (s : State) : Out := aluReg .sub .l s

/-- SUB A (R146). -/
def execSubA (s : State) : Out := aluReg .sub .a s

/-- SUB M (R147). -/
def execSubM (s : State) : Out := aluMem .sub s

/-- SUI d8 (R148). -/
def execSui (d8 : Byte) (s : State) : Out := aluImm .sub d8 s

/-- SBB B (R149). -/
def execSbbB (s : State) : Out := aluReg .sbb .b s

/-- SBB C (R149). -/
def execSbbC (s : State) : Out := aluReg .sbb .c s

/-- SBB D (R149). -/
def execSbbD (s : State) : Out := aluReg .sbb .d s

/-- SBB E (R149). -/
def execSbbE (s : State) : Out := aluReg .sbb .e s

/-- SBB H (R149). -/
def execSbbH (s : State) : Out := aluReg .sbb .h s

/-- SBB L (R149). -/
def execSbbL (s : State) : Out := aluReg .sbb .l s

/-- SBB A (R149). -/
def execSbbA (s : State) : Out := aluReg .sbb .a s

/-- SBB M (R150). -/
def execSbbM (s : State) : Out := aluMem .sbb s

/-- SBI d8 (R151). -/
def execSbi (d8 : Byte) (s : State) : Out := aluImm .sbb d8 s

/-- ANA B (R152). -/
def execAnaB (s : State) : Out := aluReg .ana .b s

/-- ANA C (R152). -/
def execAnaC (s : State) : Out := aluReg .ana .c s

/-- ANA D (R152). -/
def execAnaD (s : State) : Out := aluReg .ana .d s

/-- ANA E (R152). -/
def execAnaE (s : State) : Out := aluReg .ana .e s

/-- ANA H (R152). -/
def execAnaH (s : State) : Out := aluReg .ana .h s

/-- ANA L (R152). -/
def execAnaL (s : State) : Out := aluReg .ana .l s

/-- ANA A (R152). -/
def execAnaA (s : State) : Out := aluReg .ana .a s

/-- ANA M (R153). -/
def execAnaM (s : State) : Out := aluMem .ana s

/-- ANI d8 (R154). -/
def execAni (d8 : Byte) (s : State) : Out := aluImm .ana d8 s

/-- XRA B (R155). -/
def execXraB (s : State) : Out := aluReg .xra .b s

/-- XRA C (R155). -/
def execXraC (s : State) : Out := aluReg .xra .c s

/-- XRA D (R155). -/
def execXraD (s : State) : Out := aluReg .xra .d s

/-- XRA E (R155). -/
def execXraE (s : State) : Out := aluReg .xra .e s

/-- XRA H (R155). -/
def execXraH (s : State) : Out := aluReg .xra .h s

/-- XRA L (R155). -/
def execXraL (s : State) : Out := aluReg .xra .l s

/-- XRA A (R155). -/
def execXraA (s : State) : Out := aluReg .xra .a s

/-- XRA M (R156). -/
def execXraM (s : State) : Out := aluMem .xra s

/-- XRI d8 (R157). -/
def execXri (d8 : Byte) (s : State) : Out := aluImm .xra d8 s

/-- ORA B (R158). -/
def execOraB (s : State) : Out := aluReg .ora .b s

/-- ORA C (R158). -/
def execOraC (s : State) : Out := aluReg .ora .c s

/-- ORA D (R158). -/
def execOraD (s : State) : Out := aluReg .ora .d s

/-- ORA E (R158). -/
def execOraE (s : State) : Out := aluReg .ora .e s

/-- ORA H (R158). -/
def execOraH (s : State) : Out := aluReg .ora .h s

/-- ORA L (R158). -/
def execOraL (s : State) : Out := aluReg .ora .l s

/-- ORA A (R158). -/
def execOraA (s : State) : Out := aluReg .ora .a s

/-- ORA M (R159). -/
def execOraM (s : State) : Out := aluMem .ora s

/-- ORI d8 (R160). -/
def execOri (d8 : Byte) (s : State) : Out := aluImm .ora d8 s

/-- CMP B (R161). -/
def execCmpB (s : State) : Out := aluReg .cmp .b s

/-- CMP C (R161). -/
def execCmpC (s : State) : Out := aluReg .cmp .c s

/-- CMP D (R161). -/
def execCmpD (s : State) : Out := aluReg .cmp .d s

/-- CMP E (R161). -/
def execCmpE (s : State) : Out := aluReg .cmp .e s

/-- CMP H (R161). -/
def execCmpH (s : State) : Out := aluReg .cmp .h s

/-- CMP L (R161). -/
def execCmpL (s : State) : Out := aluReg .cmp .l s

/-- CMP A (R161). -/
def execCmpA (s : State) : Out := aluReg .cmp .a s

/-- CMP M (R162). -/
def execCmpM (s : State) : Out := aluMem .cmp s

/-- CPI d8 (R163). -/
def execCpi (d8 : Byte) (s : State) : Out := aluImm .cmp d8 s

/-- INR B (R170). -/
def execInrB (s : State) : Out := inrReg .b s

/-- INR C (R170). -/
def execInrC (s : State) : Out := inrReg .c s

/-- INR D (R170). -/
def execInrD (s : State) : Out := inrReg .d s

/-- INR E (R170). -/
def execInrE (s : State) : Out := inrReg .e s

/-- INR H (R170). -/
def execInrH (s : State) : Out := inrReg .h s

/-- INR L (R170). -/
def execInrL (s : State) : Out := inrReg .l s

/-- INR A (R170). -/
def execInrA (s : State) : Out := inrReg .a s

/-- INR M (R171). -/
def execInrM (s : State) : Out := inrMem s

/-- DCR B (R172). -/
def execDcrB (s : State) : Out := dcrReg .b s

/-- DCR C (R172). -/
def execDcrC (s : State) : Out := dcrReg .c s

/-- DCR D (R172). -/
def execDcrD (s : State) : Out := dcrReg .d s

/-- DCR E (R172). -/
def execDcrE (s : State) : Out := dcrReg .e s

/-- DCR H (R172). -/
def execDcrH (s : State) : Out := dcrReg .h s

/-- DCR L (R172). -/
def execDcrL (s : State) : Out := dcrReg .l s

/-- DCR A (R172). -/
def execDcrA (s : State) : Out := dcrReg .a s

/-- DCR M (R173). -/
def execDcrM (s : State) : Out := dcrMem s

/-- INX B (R174). -/
def execInxB (s : State) : Out := inxPair .bc s

/-- INX D (R174). -/
def execInxD (s : State) : Out := inxPair .de s

/-- INX H (R174). -/
def execInxH (s : State) : Out := inxPair .hl s

/-- INX SP (R174). -/
def execInxSp (s : State) : Out := inxPair .sp s

/-- DCX B (R175). -/
def execDcxB (s : State) : Out := dcxPair .bc s

/-- DCX D (R175). -/
def execDcxD (s : State) : Out := dcxPair .de s

/-- DCX H (R175). -/
def execDcxH (s : State) : Out := dcxPair .hl s

/-- DCX SP (R175). -/
def execDcxSp (s : State) : Out := dcxPair .sp s

/-- DAD B (R176). -/
def execDadB (s : State) : Out := dadPair .bc s

/-- DAD D (R176). -/
def execDadD (s : State) : Out := dadPair .de s

/-- DAD H (R176). -/
def execDadH (s : State) : Out := dadPair .hl s

/-- DAD SP (R176). -/
def execDadSp (s : State) : Out := dadPair .sp s

/-- CMA (R180). -/
def execCma (s : State) : Out := complementA s

/-- DAA (R182). -/
def execDaa (s : State) : Out := decimalAdjust s

/-- STC (R183). -/
def execStc (s : State) : Out := setCarry s

/-- CMC (R184). -/
def execCmc (s : State) : Out := complementCarry s

/-- RLC (R190). -/
def execRlc (s : State) : Out := rotateLeft s

/-- RRC (R191). -/
def execRrc (s : State) : Out := rotateRight s

/-- RAL (R192). -/
def execRal (s : State) : Out := rotateLeftCarry s

/-- RAR (R193). -/
def execRar (s : State) : Out := rotateRightCarry s

end Sys2Proof.Machine
end

