-- ==== Sys2Proof/Machine/Control.lean ====
section
/-!
DEFINITION. The control transfer instructions (spec/42_control_transfer.md R200 to R208). `advance` comes first, so PC is the
address after the instruction when it is pushed or kept (R74). Conditional calls and returns have two costs (R311).
-/

namespace Sys2Proof.Machine

/-- JMP a16 (R200). -/
def jump (a16 : Addr) (s : State) : Out := retire 10 (jumpTo a16 (advance 3 s))

/-- Jcc a16 (R201): 10 cycles either way. -/
def jumpIf (cond : Cond) (a16 : Addr) (s : State) : Out :=
  if condHolds cond s.flags then retire 10 (jumpTo a16 (advance 3 s)) else retire 10 (advance 3 s)

/-- CALL a16 (R202). -/
def callTo (a16 : Addr) (s : State) : Out := retire 17 (pushPcAndJump a16 (advance 3 s))

/-- Ccc a16 (R203). -/
def callIf (cond : Cond) (a16 : Addr) (s : State) : Out :=
  if condHolds cond s.flags then retire 17 (pushPcAndJump a16 (advance 3 s)) else retire 11 (advance 3 s)

/-- RET (R204). -/
def returnOp (s : State) : Out := retire 10 (returnToPopped (advance 1 s))

/-- Rcc (R205). -/
def returnIf (cond : Cond) (s : State) : Out :=
  if condHolds cond s.flags then retire 11 (returnToPopped (advance 1 s)) else retire 5 (advance 1 s)

/-- PCHL (R206). -/
def jumpHl (s : State) : Out := retire 5 (jumpTo (readPair .hl s) (advance 1 s))

/-- RST n (R208). -/
def restart (n : Nat) (s : State) : Out := retire 11 (pushPcAndJump (restartVector n) (advance 1 s))

/-- JMP a16 (R200). -/
def execJmp (a16 : Addr) (s : State) : Out := jump a16 s

/-- JNZ a16 (R201). -/
def execJnz (a16 : Addr) (s : State) : Out := jumpIf .nz a16 s

/-- JZ a16 (R201). -/
def execJz (a16 : Addr) (s : State) : Out := jumpIf .z a16 s

/-- JNC a16 (R201). -/
def execJnc (a16 : Addr) (s : State) : Out := jumpIf .nc a16 s

/-- JC a16 (R201). -/
def execJc (a16 : Addr) (s : State) : Out := jumpIf .c a16 s

/-- JPO a16 (R201). -/
def execJpo (a16 : Addr) (s : State) : Out := jumpIf .po a16 s

/-- JPE a16 (R201). -/
def execJpe (a16 : Addr) (s : State) : Out := jumpIf .pe a16 s

/-- JP a16 (R201). -/
def execJp (a16 : Addr) (s : State) : Out := jumpIf .p a16 s

/-- JM a16 (R201). -/
def execJm (a16 : Addr) (s : State) : Out := jumpIf .m a16 s

/-- CALL a16 (R202). -/
def execCall (a16 : Addr) (s : State) : Out := callTo a16 s

/-- CNZ a16 (R203). -/
def execCnz (a16 : Addr) (s : State) : Out := callIf .nz a16 s

/-- CZ a16 (R203). -/
def execCz (a16 : Addr) (s : State) : Out := callIf .z a16 s

/-- CNC a16 (R203). -/
def execCnc (a16 : Addr) (s : State) : Out := callIf .nc a16 s

/-- CC a16 (R203). -/
def execCc (a16 : Addr) (s : State) : Out := callIf .c a16 s

/-- CPO a16 (R203). -/
def execCpo (a16 : Addr) (s : State) : Out := callIf .po a16 s

/-- CPE a16 (R203). -/
def execCpe (a16 : Addr) (s : State) : Out := callIf .pe a16 s

/-- CP a16 (R203). -/
def execCp (a16 : Addr) (s : State) : Out := callIf .p a16 s

/-- CM a16 (R203). -/
def execCm (a16 : Addr) (s : State) : Out := callIf .m a16 s

/-- RET (R204). -/
def execRet (s : State) : Out := returnOp s

/-- RNZ (R205). -/
def execRnz (s : State) : Out := returnIf .nz s

/-- RZ (R205). -/
def execRz (s : State) : Out := returnIf .z s

/-- RNC (R205). -/
def execRnc (s : State) : Out := returnIf .nc s

/-- RC (R205). -/
def execRc (s : State) : Out := returnIf .c s

/-- RPO (R205). -/
def execRpo (s : State) : Out := returnIf .po s

/-- RPE (R205). -/
def execRpe (s : State) : Out := returnIf .pe s

/-- RP (R205). -/
def execRp (s : State) : Out := returnIf .p s

/-- RM (R205). -/
def execRm (s : State) : Out := returnIf .m s

/-- PCHL (R206). -/
def execPchl (s : State) : Out := jumpHl s

/-- RST 0 (R208). -/
def execRst0 (s : State) : Out := restart 0 s

/-- RST 1 (R208). -/
def execRst1 (s : State) : Out := restart 1 s

/-- RST 2 (R208). -/
def execRst2 (s : State) : Out := restart 2 s

/-- RST 3 (R208). -/
def execRst3 (s : State) : Out := restart 3 s

/-- RST 4 (R208). -/
def execRst4 (s : State) : Out := restart 4 s

/-- RST 5 (R208). -/
def execRst5 (s : State) : Out := restart 5 s

/-- RST 6 (R208). -/
def execRst6 (s : State) : Out := restart 6 s

/-- RST 7 (R208). -/
def execRst7 (s : State) : Out := restart 7 s

end Sys2Proof.Machine
end

