-- ==== Sys2Proof/Machine/DataTransfer.lean ====
section
/-!
DEFINITION. The data transfer instructions (spec/40_data_transfer.md R100 to R124): the shared operation of each rule, and
below them one meaning per instruction.
-/

namespace Sys2Proof.Machine

/-- MOV r,r' (R100). -/
def movReg (dst src : Reg8) (s : State) : Out := retire 5 (writeReg dst (readReg src s) (advance 1 s))

/-- MOV r,M (R101). -/
def movFromM (dst : Reg8) (s : State) : Out := retire 7 (writeReg dst (readM s) (advance 1 s))

/-- MOV M,r (R102). -/
def movToM (src : Reg8) (s : State) : Out := retire 7 (writeM (readReg src s) (advance 1 s))

/-- MVI r,d8 (R103). -/
def mviReg (dst : Reg8) (d8 : Byte) (s : State) : Out := retire 7 (writeReg dst d8 (advance 2 s))

/-- MVI M,d8, unlisted (R106). -/
def mviMem (d8 : Byte) (s : State) : Out :=
  ifUnlistedAdmitted 0x36 s (retire 10 (writeM d8 (advance 2 s)))

/-- LDA a16 (R107). -/
def ldaDirect (a16 : Addr) (s : State) : Out := retire 13 (writeReg .a (memRead a16 s) (advance 3 s))

/-- STA a16 (R108). -/
def staDirect (a16 : Addr) (s : State) : Out := retire 13 (memWrite a16 s.a (advance 3 s))

/-- LDAX rp (R109). -/
def ldaxPair (p : IndexPair) (s : State) : Out :=
  retire 7 (writeReg .a (memRead (readPair (indexPairReg p) s) s) (advance 1 s))

/-- STAX rp (R110). -/
def staxPair (p : IndexPair) (s : State) : Out :=
  retire 7 (memWrite (readPair (indexPairReg p) s) s.a (advance 1 s))

/-- LXI rp,d16 (R111). -/
def lxiPair (p : RegPair) (d16 : Addr) (s : State) : Out := retire 10 (writePair p d16 (advance 3 s))

/-- LHLD a16 (R112). -/
def lhldDirect (a16 : Addr) (s : State) : Out :=
  retire 16 (writePair .hl (memRead16 a16 s) (advance 3 s))

/-- SHLD a16 (R113). -/
def shldDirect (a16 : Addr) (s : State) : Out :=
  retire 16 (memWrite16 a16 (readPair .hl s) (advance 3 s))

/-- XCHG (R114). -/
def exchangeDeHl (s : State) : Out :=
  retire 4 (writePair .hl (readPair .de s) (writePair .de (readPair .hl s) (advance 1 s)))

/-- XTHL (R115): both bytes are read before either is written. -/
def exchangeStackHl (s : State) : Out :=
  retire 18 (writePair .hl (memRead16 s.sp s) (memWrite16 s.sp (readPair .hl s) (advance 1 s)))

/-- PUSH rp (R120). -/
def pushPairOp (p : PushPair) (s : State) : Out :=
  retire 11 (push16 (readPair (pushPairReg p) s) (advance 1 s))

/-- PUSH PSW (R121). -/
def pushPswOp (s : State) : Out := retire 11 (push16 (word16 s.a (packFlags s.flags)) (advance 1 s))

/-- POP rp (R122). -/
def popPairOp (p : PushPair) (s : State) : Out :=
  let v := pop16 (advance 1 s)
  retire 10 (writePair (pushPairReg p) v.1 v.2)

/-- POP PSW (R123). -/
def popPswOp (s : State) : Out :=
  let v := pop16 (advance 1 s)
  retire 10 { v.2 with a := hiByte v.1, flags := unpackFlags (loByte v.1) }

/-- SPHL, unlisted (R124). -/
def spFromHl (s : State) : Out :=
  ifUnlistedAdmitted 0xF9 s (retire 5 (writePair .sp (readPair .hl s) (advance 1 s)))

/-- MOV B,B (R100). -/
def execMovBB (s : State) : Out := movReg .b .b s

/-- MOV B,C (R100). -/
def execMovBC (s : State) : Out := movReg .b .c s

/-- MOV B,D (R100). -/
def execMovBD (s : State) : Out := movReg .b .d s

/-- MOV B,E (R100). -/
def execMovBE (s : State) : Out := movReg .b .e s

/-- MOV B,H (R100). -/
def execMovBH (s : State) : Out := movReg .b .h s

/-- MOV B,L (R100). -/
def execMovBL (s : State) : Out := movReg .b .l s

/-- MOV B,A (R100). -/
def execMovBA (s : State) : Out := movReg .b .a s

/-- MOV C,B (R100). -/
def execMovCB (s : State) : Out := movReg .c .b s

/-- MOV C,C (R100). -/
def execMovCC (s : State) : Out := movReg .c .c s

/-- MOV C,D (R100). -/
def execMovCD (s : State) : Out := movReg .c .d s

/-- MOV C,E (R100). -/
def execMovCE (s : State) : Out := movReg .c .e s

/-- MOV C,H (R100). -/
def execMovCH (s : State) : Out := movReg .c .h s

/-- MOV C,L (R100). -/
def execMovCL (s : State) : Out := movReg .c .l s

/-- MOV C,A (R100). -/
def execMovCA (s : State) : Out := movReg .c .a s

/-- MOV D,B (R100). -/
def execMovDB (s : State) : Out := movReg .d .b s

/-- MOV D,C (R100). -/
def execMovDC (s : State) : Out := movReg .d .c s

/-- MOV D,D (R100). -/
def execMovDD (s : State) : Out := movReg .d .d s

/-- MOV D,E (R100). -/
def execMovDE (s : State) : Out := movReg .d .e s

/-- MOV D,H (R100). -/
def execMovDH (s : State) : Out := movReg .d .h s

/-- MOV D,L (R100). -/
def execMovDL (s : State) : Out := movReg .d .l s

/-- MOV D,A (R100). -/
def execMovDA (s : State) : Out := movReg .d .a s

/-- MOV E,B (R100). -/
def execMovEB (s : State) : Out := movReg .e .b s

/-- MOV E,C (R100). -/
def execMovEC (s : State) : Out := movReg .e .c s

/-- MOV E,D (R100). -/
def execMovED (s : State) : Out := movReg .e .d s

/-- MOV E,E (R100). -/
def execMovEE (s : State) : Out := movReg .e .e s

/-- MOV E,H (R100). -/
def execMovEH (s : State) : Out := movReg .e .h s

/-- MOV E,L (R100). -/
def execMovEL (s : State) : Out := movReg .e .l s

/-- MOV E,A (R100). -/
def execMovEA (s : State) : Out := movReg .e .a s

/-- MOV H,B (R100). -/
def execMovHB (s : State) : Out := movReg .h .b s

/-- MOV H,C (R100). -/
def execMovHC (s : State) : Out := movReg .h .c s

/-- MOV H,D (R100). -/
def execMovHD (s : State) : Out := movReg .h .d s

/-- MOV H,E (R100). -/
def execMovHE (s : State) : Out := movReg .h .e s

/-- MOV H,H (R100). -/
def execMovHH (s : State) : Out := movReg .h .h s

/-- MOV H,L (R100). -/
def execMovHL (s : State) : Out := movReg .h .l s

/-- MOV H,A (R100). -/
def execMovHA (s : State) : Out := movReg .h .a s

/-- MOV L,B (R100). -/
def execMovLB (s : State) : Out := movReg .l .b s

/-- MOV L,C (R100). -/
def execMovLC (s : State) : Out := movReg .l .c s

/-- MOV L,D (R100). -/
def execMovLD (s : State) : Out := movReg .l .d s

/-- MOV L,E (R100). -/
def execMovLE (s : State) : Out := movReg .l .e s

/-- MOV L,H (R100). -/
def execMovLH (s : State) : Out := movReg .l .h s

/-- MOV L,L (R100). -/
def execMovLL (s : State) : Out := movReg .l .l s

/-- MOV L,A (R100). -/
def execMovLA (s : State) : Out := movReg .l .a s

/-- MOV A,B (R100). -/
def execMovAB (s : State) : Out := movReg .a .b s

/-- MOV A,C (R100). -/
def execMovAC (s : State) : Out := movReg .a .c s

/-- MOV A,D (R100). -/
def execMovAD (s : State) : Out := movReg .a .d s

/-- MOV A,E (R100). -/
def execMovAE (s : State) : Out := movReg .a .e s

/-- MOV A,H (R100). -/
def execMovAH (s : State) : Out := movReg .a .h s

/-- MOV A,L (R100). -/
def execMovAL (s : State) : Out := movReg .a .l s

/-- MOV A,A (R100). -/
def execMovAA (s : State) : Out := movReg .a .a s

/-- MOV B,M (R101). -/
def execMovBM (s : State) : Out := movFromM .b s

/-- MOV C,M (R101). -/
def execMovCM (s : State) : Out := movFromM .c s

/-- MOV D,M (R101). -/
def execMovDM (s : State) : Out := movFromM .d s

/-- MOV E,M (R101). -/
def execMovEM (s : State) : Out := movFromM .e s

/-- MOV H,M (R101). -/
def execMovHM (s : State) : Out := movFromM .h s

/-- MOV L,M (R101). -/
def execMovLM (s : State) : Out := movFromM .l s

/-- MOV A,M (R101). -/
def execMovAM (s : State) : Out := movFromM .a s

/-- MOV M,B (R102). -/
def execMovMB (s : State) : Out := movToM .b s

/-- MOV M,C (R102). -/
def execMovMC (s : State) : Out := movToM .c s

/-- MOV M,D (R102). -/
def execMovMD (s : State) : Out := movToM .d s

/-- MOV M,E (R102). -/
def execMovME (s : State) : Out := movToM .e s

/-- MOV M,H (R102). -/
def execMovMH (s : State) : Out := movToM .h s

/-- MOV M,L (R102). -/
def execMovML (s : State) : Out := movToM .l s

/-- MOV M,A (R102). -/
def execMovMA (s : State) : Out := movToM .a s

/-- MVI B,d8 (R103). -/
def execMviB (d8 : Byte) (s : State) : Out := mviReg .b d8 s

/-- MVI C,d8 (R103). -/
def execMviC (d8 : Byte) (s : State) : Out := mviReg .c d8 s

/-- MVI D,d8 (R103). -/
def execMviD (d8 : Byte) (s : State) : Out := mviReg .d d8 s

/-- MVI E,d8 (R103). -/
def execMviE (d8 : Byte) (s : State) : Out := mviReg .e d8 s

/-- MVI H,d8 (R103). -/
def execMviH (d8 : Byte) (s : State) : Out := mviReg .h d8 s

/-- MVI L,d8 (R103). -/
def execMviL (d8 : Byte) (s : State) : Out := mviReg .l d8 s

/-- MVI A,d8 (R103). -/
def execMviA (d8 : Byte) (s : State) : Out := mviReg .a d8 s

/-- MVI M,d8 (R106). -/
def execMviM (d8 : Byte) (s : State) : Out := mviMem d8 s

/-- LDA a16 (R107). -/
def execLda (a16 : Addr) (s : State) : Out := ldaDirect a16 s

/-- STA a16 (R108). -/
def execSta (a16 : Addr) (s : State) : Out := staDirect a16 s

/-- LDAX B (R109). -/
def execLdaxB (s : State) : Out := ldaxPair .bc s

/-- LDAX D (R109). -/
def execLdaxD (s : State) : Out := ldaxPair .de s

/-- STAX B (R110). -/
def execStaxB (s : State) : Out := staxPair .bc s

/-- STAX D (R110). -/
def execStaxD (s : State) : Out := staxPair .de s

/-- LXI B,d16 (R111). -/
def execLxiB (d16 : Addr) (s : State) : Out := lxiPair .bc d16 s

/-- LXI D,d16 (R111). -/
def execLxiD (d16 : Addr) (s : State) : Out := lxiPair .de d16 s

/-- LXI H,d16 (R111). -/
def execLxiH (d16 : Addr) (s : State) : Out := lxiPair .hl d16 s

/-- LXI SP,d16 (R111). -/
def execLxiSp (d16 : Addr) (s : State) : Out := lxiPair .sp d16 s

/-- LHLD a16 (R112). -/
def execLhld (a16 : Addr) (s : State) : Out := lhldDirect a16 s

/-- SHLD a16 (R113). -/
def execShld (a16 : Addr) (s : State) : Out := shldDirect a16 s

/-- XCHG (R114). -/
def execXchg (s : State) : Out := exchangeDeHl s

/-- XTHL (R115). -/
def execXthl (s : State) : Out := exchangeStackHl s

/-- PUSH B (R120). -/
def execPushB (s : State) : Out := pushPairOp .bc s

/-- PUSH D (R120). -/
def execPushD (s : State) : Out := pushPairOp .de s

/-- PUSH H (R120). -/
def execPushH (s : State) : Out := pushPairOp .hl s

/-- PUSH PSW (R121). -/
def execPushPsw (s : State) : Out := pushPswOp s

/-- POP B (R122). -/
def execPopB (s : State) : Out := popPairOp .bc s

/-- POP D (R122). -/
def execPopD (s : State) : Out := popPairOp .de s

/-- POP H (R122). -/
def execPopH (s : State) : Out := popPairOp .hl s

/-- POP PSW (R123). -/
def execPopPsw (s : State) : Out := popPswOp s

/-- SPHL (R124). -/
def execSphl (s : State) : Out := spFromHl s

end Sys2Proof.Machine
end

