-- ==== Sys2Proof/Machine/Ports.lean ====
section
/-!
DEFINITION. The arcade I/O port layer (spec/44_io_port_layer.md R240 to R251): the shifter, the buttons, the DIP switches, the
sound latches and the ignored ports.
-/

namespace Sys2Proof.Machine

/-- The packed buttons byte of IN 1 (R245). Bit 3 is the parameter `IN1_BIT3`; bit 7 is 0 (D16; log entry 8). -/
def buttonsByte (s : State) : Byte :=
  bitAt s.buttons.p1Right 6 ||| bitAt s.buttons.p1Left 5 ||| bitAt s.buttons.p1Fire 4 |||
  bitAt s.params.in1Bit3 3 ||| bitAt s.buttons.p1Start 2 ||| bitAt s.buttons.p2Start 1 |||
  bitAt (!s.buttons.coin) 0

/-- The shifter read of IN 3: `trunc_8((hi << offset) | (lo >> (8 - offset)))` (R246). -/
def shifterRead (x : Shifter) : Byte :=
  x.hi <<< x.offset.toNat ||| x.lo >>> (8 - x.offset.toNat)

/-- `PortIn(p)`; `none` where the port is not defined (R241, R250). -/
def portIn (p : Byte) (s : State) : Option Byte :=
  if p = 1 then some (buttonsByte s)
  else if p = 2 then some 0
  else if p = 3 then some (shifterRead s.shifter)
  else none

/-- OUT 2: the low 3 bits of the value are the shift amount (R243). -/
def setShiftAmount (v : Byte) (s : State) : State :=
  { s with shifter := { s.shifter with offset := v.extractLsb' 0 3 } }

/-- OUT 4: feed the shifter (R244). -/
def feedShifter (v : Byte) (s : State) : State :=
  { s with shifter := { s.shifter with lo := s.shifter.hi, hi := v } }

/-- `PortOut(p, v)`; `none` where the port is not defined (R242, R250). Ports 1 and 6 are ignored (R248). -/
def portOut (p v : Byte) (s : State) : Option State :=
  if p = 1 then some s
  else if p = 2 then some (setShiftAmount v s)
  else if p = 3 then some { s with port3 := v }
  else if p = 4 then some (feedShifter v s)
  else if p = 5 then some { s with port5 := v }
  else if p = 6 then some s
  else none

end Sys2Proof.Machine
end

