-- ==== Sys2Proof/Machine/MachineControl.lean ====
section
/-!
DEFINITION. Machine control and I/O (spec/43_machine_control.md R220 to R231).
-/

namespace Sys2Proof.Machine

/-- NOP (R220). -/
def noOperation (s : State) : Out := retire 4 (advance 1 s)

/-- EI, which takes effect at once (R221, R315). -/
def enableInterrupts (s : State) : Out := retire 4 { advance 1 s with interruptsEnabled := true }

/-- DI, unlisted (R222). -/
def disableInterrupts (s : State) : Out :=
  ifUnlistedAdmitted 0xF3 s (retire 4 { advance 1 s with interruptsEnabled := false })

/-- IN p8 (R230): an undefined port halts and writes nothing. -/
def inputPort (p8 : Byte) (s : State) : Out :=
  match portIn p8 s with
  | some v => retire 10 (writeReg .a v (advance 2 s))
  | none => raiseHalt (.unknownInPort p8 s.icount s.pc) s

/-- OUT p8 (R231): the value sent is A; an undefined port halts. -/
def outputPort (p8 : Byte) (s : State) : Out :=
  match portOut p8 s.a (advance 2 s) with
  | some t => retire 10 t
  | none => raiseHalt (.unknownOutPort p8 s.icount s.pc) s

/-- NOP (R220). -/
def execNop (s : State) : Out := noOperation s

/-- EI (R221). -/
def execEi (s : State) : Out := enableInterrupts s

/-- DI (R222). -/
def execDi (s : State) : Out := disableInterrupts s

/-- undocumented 0x08 (R223). -/
def execUndocumented08 (s : State) : Out := haltUnknownOpcode 0x08 s

/-- undocumented 0x10 (R223). -/
def execUndocumented10 (s : State) : Out := haltUnknownOpcode 0x10 s

/-- undocumented 0x18 (R223). -/
def execUndocumented18 (s : State) : Out := haltUnknownOpcode 0x18 s

/-- undocumented 0x20 (R223). -/
def execUndocumented20 (s : State) : Out := haltUnknownOpcode 0x20 s

/-- undocumented 0x28 (R223). -/
def execUndocumented28 (s : State) : Out := haltUnknownOpcode 0x28 s

/-- undocumented 0x30 (R223). -/
def execUndocumented30 (s : State) : Out := haltUnknownOpcode 0x30 s

/-- undocumented 0x38 (R223). -/
def execUndocumented38 (s : State) : Out := haltUnknownOpcode 0x38 s

/-- HLT (R223). -/
def execHlt (s : State) : Out := haltUnknownOpcode 0x76 s

/-- undocumented 0xCB (R223). -/
def execUndocumentedCB (s : State) : Out := haltUnknownOpcode 0xCB s

/-- undocumented 0xD9 (R223). -/
def execUndocumentedD9 (s : State) : Out := haltUnknownOpcode 0xD9 s

/-- undocumented 0xDD (R223). -/
def execUndocumentedDD (s : State) : Out := haltUnknownOpcode 0xDD s

/-- undocumented 0xED (R223). -/
def execUndocumentedED (s : State) : Out := haltUnknownOpcode 0xED s

/-- undocumented 0xFD (R223). -/
def execUndocumentedFD (s : State) : Out := haltUnknownOpcode 0xFD s

/-- IN p8 (R230). -/
def execInPort (p8 : Byte) (s : State) : Out := inputPort p8 s

/-- OUT p8 (R231). -/
def execOutPort (p8 : Byte) (s : State) : Out := outputPort p8 s

end Sys2Proof.Machine
end

