-- ==== Sys2Proof/Machine/Scheduler.lean ====
section
/-!
DEFINITION. The interrupt scheduler (spec/60_exceptions.md R277 to R280): the first phase of every step.
-/

namespace Sys2Proof.Machine

/-- The due check: `cycle >= next_wakeup`, unsigned (R277). -/
def interruptDue (s : State) : Bool := decide (s.nextWakeup.toNat ≤ s.cycle.toNat)

/-- Steps b and c of a due check: advance `next_wakeup` and toggle the opcode, delivered or not (R277). -/
def rearm (s : State) : State :=
  { s with
    nextWakeup := BitVec.ofNat 64 Config.halfFrame + s.nextWakeup
    nextInterruptOp := s.nextInterruptOp ^^^ 0x18#8 }

/-- `SchedulerPhase()` (R277): a due event is delivered if interrupts are enabled, and dropped otherwise. -/
def schedulerPhase (s : State) : State :=
  if interruptDue s then
    if s.interruptsEnabled then rearm (inject s.nextInterruptOp s) else rearm s
  else s

end Sys2Proof.Machine
end

