-- ==== Sys2Proof/Machine/Step.lean ====
section
/-!
DEFINITION. One step: the scheduler phase and then the engine phase (spec/60_exceptions.md R276, spec/30_encoding.md R74).
-/

namespace Sys2Proof.Machine

/-- `EnginePhase()` (R74): fetch, decode, execute. -/
def enginePhase (s : State) : Out := exec (fetchInstr s) s

/-- `step(state)` (R276): a halted state has no step. -/
def step (s : State) : Host.Outcome State Fault Refusal :=
  match s.halted with
  | some reason => .fault (.halted reason)
  | none => enginePhase (schedulerPhase s)

/-- The state with the instruction of a word of the opcode table stored where `step` fetches its next instruction: at PC, or
at the interrupt vector when an injection comes first. A halted state fetches nothing, so `halted` is cleared
(log entry 14). -/
def State.withFetchWord (s : State) (nbits w : Nat) : State :=
  placeBytes (schedulerPhase s).pc (tableBytes nbits w) { s with halted := none }

end Sys2Proof.Machine
end

