-- ==== Sys2Proof/Machine/HostView.lean ====
section
/-!
DEFINITION. What the host does to the core between steps and reads from it (spec/60_exceptions.md R293,
spec/44_io_port_layer.md R251, spec/20_memory.md R57).
-/

namespace Sys2Proof.Machine

/-- The host's only input after launch: the six buttons (R32, R251). -/
def setButtons (b : Buttons) (s : State) : State := { s with buttons := b }

/-- The latch bits that went 0→1 between two readings, which the host turns into sounds (R251). -/
def risingEdges (before after : Byte) : Byte := ~~~before &&& after

/-- The sounds behind bits 0 to 4 of the two latches (R247). -/
inductive Sound where
  | ufo | shot | playerDie | invaderDie | extraLife
  | fleet1 | fleet2 | fleet3 | fleet4 | ufoHit
  deriving DecidableEq, Repr

/-- The sound of bit `n` of `port3` (R247). -/
def soundOfPort3 (n : Nat) : Option Sound :=
  [Sound.ufo, .shot, .playerDie, .invaderDie, .extraLife][n]?

/-- The sound of bit `n` of `port5` (R247). -/
def soundOfPort5 (n : Nat) : Option Sound :=
  [Sound.fleet1, .fleet2, .fleet3, .fleet4, .ufoHit][n]?

/-- The sounds a host raises after a batch of steps that began at `before` and ended at `after` (R251). -/
def soundsRaised (before after : State) : List Sound :=
  (List.range 5).filterMap (fun n =>
    if (risingEdges before.port3 after.port3).getLsbD n then soundOfPort3 n else none) ++
  (List.range 5).filterMap (fun n =>
    if (risingEdges before.port5 after.port5).getLsbD n then soundOfPort5 n else none)

/-- Bit `i` of the video byte at offset `yi*32 + xi` from 0x2400, for `yi < 224`, `xi < 32`, `i < 8` (R57). -/
def videoBit (yi xi i : Nat) (s : State) : Bool :=
  (memRead (BitVec.ofNat 16 (0x2400 + yi * 32 + xi)) s).getLsbD i

/-- The display position of that bit, in units of the host's scale: `(yi, 255 - (xi*8 + i))` (R57). -/
def videoPosition (yi xi i : Nat) : Nat × Nat := (yi, 255 - (xi * 8 + i))

/-- What the host prints at a halt: the byte, `icount` and the address (R271). -/
def HaltReason.diagnostic : HaltReason → Byte × Counter × Addr
  | .unknownOpcode b n pc => (b, n, pc)
  | .unknownInPort b n pc => (b, n, pc)
  | .unknownOutPort b n pc => (b, n, pc)

end Sys2Proof.Machine
end

