-- ==== Sys2Proof/Safety.lean ====
section
/-!
DEFINITION. The invariants of the machine (spec/10_state.md R41, spec/60_exceptions.md R271, R281), the states a run can reach
(R292, R293), and what counts as a safe run: one that neither stops nor halts.
-/

namespace Sys2Proof.Machine

/-- A halt's record agrees with the state it leaves: the address is PC, the count is `icount`, the byte is the one in
memory, and it is a byte that halts (R271, R272). -/
def HaltReason.agrees (s : State) : HaltReason → Bool
  | .unknownOpcode op n pc =>
    pc == s.pc && n == s.icount && memRead pc s == op &&
      !(decodeBytes op 0 0).wellFormed s.params.admitUnlisted
  | .unknownInPort p n pc =>
    pc == s.pc && n == s.icount && memRead pc s == 0xDB#8 && memRead (pc + 1) s == p &&
      !([1#8, 2#8, 3#8].contains p)
  | .unknownOutPort p n pc =>
    pc == s.pc && n == s.icount && memRead pc s == 0xD3#8 && memRead (pc + 1) s == p &&
      !([1#8, 2#8, 3#8, 4#8, 5#8, 6#8].contains p)

/-- `halted` is `none`, or a reason that agrees with the state. -/
def State.haltAgrees (s : State) : Bool :=
  match s.halted with
  | none => true
  | some reason => reason.agrees s

/-- The invariant of every state a run reaches: memory is in its canonical form, `next_interrupt_op` is RST 1 or RST 2
(R41 c), and a halt is for the cause it records. The ranges of R41 (a) and (b) hold by the fields' types. -/
abbrev State.Inv (s : State) : Prop :=
  s.mem.wf = true ∧ (s.nextInterruptOp = 0xCF#8 ∨ s.nextInterruptOp = 0xD7#8) ∧
    s.haltAgrees = true

/-- The scheduler's clock (R41 f, R281 c, R285, R313): `next_wakeup` is a multiple of `HALF_FRAME`, odd multiples announce
RST 1 and even ones RST 2, it is less than 18 cycles overdue, and at most one interval ahead. -/
abbrev State.SchedulerInv (s : State) : Prop :=
  s.nextWakeup.toNat % Config.halfFrame = 0 ∧
  s.nextInterruptOp = (if s.nextWakeup.toNat / Config.halfFrame % 2 = 1 then 0xCF#8 else 0xD7#8) ∧
  s.cycle.toNat < s.nextWakeup.toNat + 18 ∧
  s.nextWakeup.toNat ≤ s.cycle.toNat + Config.halfFrame

/-- The states of the runs that start from a launch with parameters `p` and ROM image `rom`: by steps, and by the host's
button inputs between them (R292, R293). -/
inductive Reachable (p : Params) (rom : List Byte) : State → Prop where
  | launch : Reachable p rom (State.launch p rom)
  | step {s t : State} : Reachable p rom s → step s = .next t → Reachable p rom t
  | buttons {s : State} (b : Buttons) : Reachable p rom s → Reachable p rom (setButtons b s)

/-- A safe run of `k` steps from `s`: every step answers a next state, and no state along it has halted. -/
def SafeRun (k : Nat) (s : State) : Prop :=
  ∀ j ≤ k, ∃ t, core.run j s = .next t ∧ t.halted = none

end Sys2Proof.Machine
end

