-- ==== Sys2Proof/Certificates/Slice0/Obligations.lean ====
section
/-!
DEFINITION. The statements for the provers. The first part is their vocabulary, written from the spec's tables and
independent of the meanings' own text; each statement after it names the rule it formalises.
-/

namespace Sys2Proof.Expect

open Machine

/-- A byte from a natural below 256. -/
def byte (n : Nat) : Byte := BitVec.ofNat 8 n

/-- The state of an instruction of `len` bytes and `cost` cycles that changes nothing but what every retirement changes:
PC past the instruction (R23), `cycle` and `icount` (R74). -/
def done (len cost : Nat) (s : State) : State :=
  { s with pc := s.pc + BitVec.ofNat 16 len, cycle := s.cycle + BitVec.ofNat 64 cost, icount := s.icount + 1 }

/-- The instruction's bytes, in both directions: it is encoded so, and so decoded whatever follows. -/
def EncodedAs (i : Instr) (bytes : List Byte) : Prop :=
  encode i = bytes ∧ ∀ rest, decode (bytes ++ rest) = .ok (i, rest)

/-- The state left by `raise Halt(reason)` in the engine phase that starts at `s` (R271; decision D15, log entry 5). -/
def haltedWith (reason : HaltReason) (s : State) : State := { s with halted := some reason }

/-- The register codes of R75. -/
def regCode : Reg8 → Nat
  | .b => 0 | .c => 1 | .d => 2 | .e => 3 | .h => 4 | .l => 5 | .a => 7

/-- The pair codes of R76. -/
def pairCode : RegPair → Nat
  | .bc => 0 | .de => 1 | .hl => 2 | .sp => 3

/-- The pair a PUSH or POP names, with its code (R76). -/
def pushPairOf : PushPair → RegPair
  | .bc => .bc | .de => .de | .hl => .hl

/-- The pair an LDAX or STAX names (R76). -/
def indexPairOf : IndexPair → RegPair
  | .bc => .bc | .de => .de

/-- The ALU codes of R82. -/
def aluCode : AluOp → Nat
  | .add => 0 | .adc => 1 | .sub => 2 | .sbb => 3 | .ana => 4 | .xra => 5 | .ora => 6 | .cmp => 7

/-- The condition codes of R81. -/
def condCode : Cond → Nat
  | .nz => 0 | .z => 1 | .nc => 2 | .c => 3 | .po => 4 | .pe => 5 | .p => 6 | .m => 7

/-- The tests of R81. -/
def condTrue (cond : Cond) (f : Flags) : Bool :=
  match cond with
  | .nz => f.z == false
  | .z => f.z == true
  | .nc => f.cy == false
  | .c => f.cy == true
  | .po => f.p == false
  | .pe => f.p == true
  | .p => f.s == false
  | .m => f.s == true

/-- P of R24: an even number of 1 bits. -/
def evenOnes (r : Byte) : Bool := (List.range 8).countP (fun n => r.getLsbD n) % 2 == 0

/-- S, Z and P of a result by R24, with the carry given and AC kept. -/
def resultFlags (r : Byte) (cy : Bool) (old : Flags) : Flags :=
  { s := decide (128 ≤ r.toNat), z := decide (r.toNat = 0), p := evenOnes r, cy := cy, ac := old.ac }

/-- The exact result and the carry of the eight ALU operations (R164, R165, R166), on naturals. -/
def aluExact (op : AluOp) (a src cy : Nat) : Nat × Bool :=
  match op with
  | .add => ((a + src) % 256, decide (256 ≤ a + src))
  | .adc => ((a + src + cy) % 256, decide (256 ≤ a + src + cy))
  | .sub | .cmp => ((a + 256 - src) % 256, decide (src > a))
  | .sbb => ((a + 256 - src - cy) % 256, decide (src + cy > a))
  | .ana => (a &&& src, false)
  | .xra => (a ^^^ src, false)
  | .ora => (a ||| src, false)

/-- The state an ALU instruction leaves: CMP does not write A. -/
def aluState (op : AluOp) (src : Byte) (len cost : Nat) (s : State) : State :=
  let x := aluExact op s.a.toNat src.toNat s.flags.cy.toNat
  { done len cost s with
    a := if op = .cmp then s.a else byte x.1
    flags := resultFlags (byte x.1) x.2 s.flags }

/-- The state after two bytes of `v` are pushed (R56), from the state `t`. -/
def pushed (v : Addr) (t : State) : State :=
  { memWrite (t.sp - 2) (loByte v) (memWrite (t.sp - 1) (hiByte v) t) with sp := t.sp - 2 }

/-- The 16-bit value on top of the stack (R56): the low byte at SP, the high byte at SP+1. -/
def stackTop (s : State) : Addr := word16 (memRead (s.sp + 1) s) (memRead s.sp s)

/-- The flag byte of R27. -/
def flagByte (f : Flags) : Byte :=
  byte (128 * f.s.toNat + 64 * f.z.toNat + 16 * f.ac.toNat + 4 * f.p.toNat + 2 + f.cy.toNat)

/-- The buttons byte of R245. -/
def buttonsExpected (s : State) : Byte :=
  byte (64 * s.buttons.p1Right.toNat + 32 * s.buttons.p1Left.toNat + 16 * s.buttons.p1Fire.toNat +
    8 * s.params.in1Bit3.toNat + 4 * s.buttons.p1Start.toNat + 2 * s.buttons.p2Start.toNat +
    (!s.buttons.coin).toNat)

/-- The instruction a step fetches at PC (R72, R73). -/
def fetched (s : State) : Instr :=
  decodeBytes (memRead s.pc s) (memRead (s.pc + 1) s) (memRead (s.pc + 2) s)

/-- Whether the scheduler phase of a step from `s` injects an interrupt (R277). -/
def injects (s : State) : Bool := decide (s.nextWakeup.toNat ≤ s.cycle.toNat) && s.interruptsEnabled

/-- The instructions run one after the other, each by `exec`. -/
def runAll : List Instr → State → Out
  | [], s => .next s
  | i :: is, s =>
    match exec i s with
    | .next t => runAll is t
    | .fault r => .fault r
    | .refused r => .refused r

/-- The thirteen halting opcodes of R79, with their bytes. -/
def haltingOpcodes : List (Instr × Byte) :=
  [(.hlt, 0x76), (.undocumented08, 0x08), (.undocumented10, 0x10), (.undocumented18, 0x18), (.undocumented20, 0x20),
   (.undocumented28, 0x28), (.undocumented30, 0x30), (.undocumented38, 0x38), (.undocumentedCB, 0xCB),
   (.undocumentedD9, 0xD9), (.undocumentedDD, 0xDD), (.undocumentedED, 0xED), (.undocumentedFD, 0xFD)]

/-- The 8-bit registers an instruction writes (the table of R40). -/
def writesRegs : Instr → List Reg8
  | .nop | .staxB | .undocumented08 | .undocumented10 | .staxD | .undocumented18 | .undocumented20 | .shld _ |
    .daa | .undocumented28 | .undocumented30 | .lxiSp _ | .sta _ | .inxSp | .inrM | .dcrM | .mviM _ | .stc |
    .undocumented38 | .dcxSp | .cmc | .movMB | .movMC | .movMD | .movME | .movMH | .movML | .hlt | .movMA |
    .cmpB | .cmpC | .cmpD | .cmpE | .cmpH | .cmpL | .cmpM | .cmpA | .rnz | .jnz _ | .jmp _ | .cnz _ | .pushB |
    .rst0 | .rz | .ret | .jz _ | .undocumentedCB | .cz _ | .call _ | .rst1 | .rnc | .jnc _ | .outPort _ | .cnc _
    | .pushD | .rst2 | .rc | .undocumentedD9 | .jc _ | .cc _ | .undocumentedDD | .rst3 | .rpo | .jpo _ | .cpo _
    | .pushH | .rst4 | .rpe | .pchl | .jpe _ | .cpe _ | .undocumentedED | .rst5 | .rp | .jp _ | .di | .cp _ |
    .pushPsw | .rst6 | .rm | .sphl | .jm _ | .ei | .cm _ | .undocumentedFD | .cpi _ | .rst7 => []
  | .lxiB _ | .inxB | .dcxB | .popB => [.b, .c]
  | .inrB | .dcrB | .mviB _ | .movBB | .movBC | .movBD | .movBE | .movBH | .movBL | .movBM | .movBA => [.b]
  | .rlc | .ldaxB | .rrc | .ral | .ldaxD | .rar | .cma | .lda _ | .inrA | .dcrA | .mviA _ | .movAB | .movAC |
    .movAD | .movAE | .movAH | .movAL | .movAM | .movAA | .addB | .addC | .addD | .addE | .addH | .addL | .addM
    | .addA | .adcB | .adcC | .adcD | .adcE | .adcH | .adcL | .adcM | .adcA | .subB | .subC | .subD | .subE |
    .subH | .subL | .subM | .subA | .sbbB | .sbbC | .sbbD | .sbbE | .sbbH | .sbbL | .sbbM | .sbbA | .anaB |
    .anaC | .anaD | .anaE | .anaH | .anaL | .anaM | .anaA | .xraB | .xraC | .xraD | .xraE | .xraH | .xraL |
    .xraM | .xraA | .oraB | .oraC | .oraD | .oraE | .oraH | .oraL | .oraM | .oraA | .adi _ | .aci _ | .sui _ |
    .inPort _ | .sbi _ | .ani _ | .xri _ | .popPsw | .ori _ => [.a]
  | .dadB | .dadD | .lxiH _ | .inxH | .dadH | .lhld _ | .dcxH | .dadSp | .popH | .xthl => [.h, .l]
  | .inrC | .dcrC | .mviC _ | .movCB | .movCC | .movCD | .movCE | .movCH | .movCL | .movCM | .movCA => [.c]
  | .lxiD _ | .inxD | .dcxD | .popD => [.d, .e]
  | .inrD | .dcrD | .mviD _ | .movDB | .movDC | .movDD | .movDE | .movDH | .movDL | .movDM | .movDA => [.d]
  | .inrE | .dcrE | .mviE _ | .movEB | .movEC | .movED | .movEE | .movEH | .movEL | .movEM | .movEA => [.e]
  | .inrH | .dcrH | .mviH _ | .movHB | .movHC | .movHD | .movHE | .movHH | .movHL | .movHM | .movHA => [.h]
  | .inrL | .dcrL | .mviL _ | .movLB | .movLC | .movLD | .movLE | .movLH | .movLL | .movLM | .movLA => [.l]
  | .xchg => [.d, .e, .h, .l]

/-- Whether an instruction writes SP (the table of R40). -/
def writesSp : Instr → Bool
  | .lxiSp _ | .inxSp | .dcxSp | .rnz | .popB | .cnz _ | .pushB | .rst0 | .rz | .ret | .cz _ | .call _ | .rst1 |
    .rnc | .popD | .cnc _ | .pushD | .rst2 | .rc | .cc _ | .rst3 | .rpo | .popH | .cpo _ | .pushH | .rst4 | .rpe
    | .cpe _ | .rst5 | .rp | .popPsw | .cp _ | .pushPsw | .rst6 | .rm | .sphl | .cm _ | .rst7 => true
  | .nop | .lxiB _ | .staxB | .inxB | .inrB | .dcrB | .mviB _ | .rlc | .undocumented08 | .dadB | .ldaxB | .dcxB
    | .inrC | .dcrC | .mviC _ | .rrc | .undocumented10 | .lxiD _ | .staxD | .inxD | .inrD | .dcrD | .mviD _ |
    .ral | .undocumented18 | .dadD | .ldaxD | .dcxD | .inrE | .dcrE | .mviE _ | .rar | .undocumented20 | .lxiH _
    | .shld _ | .inxH | .inrH | .dcrH | .mviH _ | .daa | .undocumented28 | .dadH | .lhld _ | .dcxH | .inrL |
    .dcrL | .mviL _ | .cma | .undocumented30 | .sta _ | .inrM | .dcrM | .mviM _ | .stc | .undocumented38 |
    .dadSp | .lda _ | .inrA | .dcrA | .mviA _ | .cmc | .movBB | .movBC | .movBD | .movBE | .movBH | .movBL |
    .movBM | .movBA | .movCB | .movCC | .movCD | .movCE | .movCH | .movCL | .movCM | .movCA | .movDB | .movDC |
    .movDD | .movDE | .movDH | .movDL | .movDM | .movDA | .movEB | .movEC | .movED | .movEE | .movEH | .movEL |
    .movEM | .movEA | .movHB | .movHC | .movHD | .movHE | .movHH | .movHL | .movHM | .movHA | .movLB | .movLC |
    .movLD | .movLE | .movLH | .movLL | .movLM | .movLA | .movMB | .movMC | .movMD | .movME | .movMH | .movML |
    .hlt | .movMA | .movAB | .movAC | .movAD | .movAE | .movAH | .movAL | .movAM | .movAA | .addB | .addC |
    .addD | .addE | .addH | .addL | .addM | .addA | .adcB | .adcC | .adcD | .adcE | .adcH | .adcL | .adcM |
    .adcA | .subB | .subC | .subD | .subE | .subH | .subL | .subM | .subA | .sbbB | .sbbC | .sbbD | .sbbE |
    .sbbH | .sbbL | .sbbM | .sbbA | .anaB | .anaC | .anaD | .anaE | .anaH | .anaL | .anaM | .anaA | .xraB |
    .xraC | .xraD | .xraE | .xraH | .xraL | .xraM | .xraA | .oraB | .oraC | .oraD | .oraE | .oraH | .oraL |
    .oraM | .oraA | .cmpB | .cmpC | .cmpD | .cmpE | .cmpH | .cmpL | .cmpM | .cmpA | .jnz _ | .jmp _ | .adi _ |
    .jz _ | .undocumentedCB | .aci _ | .jnc _ | .outPort _ | .sui _ | .undocumentedD9 | .jc _ | .inPort _ |
    .undocumentedDD | .sbi _ | .jpo _ | .xthl | .ani _ | .pchl | .jpe _ | .xchg | .undocumentedED | .xri _ | .jp
    _ | .di | .ori _ | .jm _ | .ei | .undocumentedFD | .cpi _ => false

/-- The columns of the table of R25. -/
inductive FlagColumns where
  | szpCy | szpOnly | cyOnly | all | none
  deriving DecidableEq, Repr

/-- The flags an instruction writes (the table of R25). -/
def writesFlags : Instr → FlagColumns
  | .nop | .lxiB _ | .staxB | .inxB | .mviB _ | .undocumented08 | .ldaxB | .dcxB | .mviC _ | .undocumented10 |
    .lxiD _ | .staxD | .inxD | .mviD _ | .undocumented18 | .ldaxD | .dcxD | .mviE _ | .undocumented20 | .lxiH _
    | .shld _ | .inxH | .mviH _ | .daa | .undocumented28 | .lhld _ | .dcxH | .mviL _ | .cma | .undocumented30 |
    .lxiSp _ | .sta _ | .inxSp | .mviM _ | .undocumented38 | .lda _ | .dcxSp | .mviA _ | .movBB | .movBC |
    .movBD | .movBE | .movBH | .movBL | .movBM | .movBA | .movCB | .movCC | .movCD | .movCE | .movCH | .movCL |
    .movCM | .movCA | .movDB | .movDC | .movDD | .movDE | .movDH | .movDL | .movDM | .movDA | .movEB | .movEC |
    .movED | .movEE | .movEH | .movEL | .movEM | .movEA | .movHB | .movHC | .movHD | .movHE | .movHH | .movHL |
    .movHM | .movHA | .movLB | .movLC | .movLD | .movLE | .movLH | .movLL | .movLM | .movLA | .movMB | .movMC |
    .movMD | .movME | .movMH | .movML | .hlt | .movMA | .movAB | .movAC | .movAD | .movAE | .movAH | .movAL |
    .movAM | .movAA | .rnz | .popB | .jnz _ | .jmp _ | .cnz _ | .pushB | .rst0 | .rz | .ret | .jz _ |
    .undocumentedCB | .cz _ | .call _ | .rst1 | .rnc | .popD | .jnc _ | .outPort _ | .cnc _ | .pushD | .rst2 |
    .rc | .undocumentedD9 | .jc _ | .inPort _ | .cc _ | .undocumentedDD | .rst3 | .rpo | .popH | .jpo _ | .xthl
    | .cpo _ | .pushH | .rst4 | .rpe | .pchl | .jpe _ | .xchg | .cpe _ | .undocumentedED | .rst5 | .rp | .jp _ |
    .di | .cp _ | .pushPsw | .rst6 | .rm | .sphl | .jm _ | .ei | .cm _ | .undocumentedFD | .rst7 => .none
  | .inrB | .dcrB | .inrC | .dcrC | .inrD | .dcrD | .inrE | .dcrE | .inrH | .dcrH | .inrL | .dcrL | .inrM |
    .dcrM | .inrA | .dcrA => .szpOnly
  | .rlc | .dadB | .rrc | .ral | .dadD | .rar | .dadH | .stc | .dadSp | .cmc => .cyOnly
  | .addB | .addC | .addD | .addE | .addH | .addL | .addM | .addA | .adcB | .adcC | .adcD | .adcE | .adcH |
    .adcL | .adcM | .adcA | .subB | .subC | .subD | .subE | .subH | .subL | .subM | .subA | .sbbB | .sbbC |
    .sbbD | .sbbE | .sbbH | .sbbL | .sbbM | .sbbA | .anaB | .anaC | .anaD | .anaE | .anaH | .anaL | .anaM |
    .anaA | .xraB | .xraC | .xraD | .xraE | .xraH | .xraL | .xraM | .xraA | .oraB | .oraC | .oraD | .oraE |
    .oraH | .oraL | .oraM | .oraA | .cmpB | .cmpC | .cmpD | .cmpE | .cmpH | .cmpL | .cmpM | .cmpA | .adi _ |
    .aci _ | .sui _ | .sbi _ | .ani _ | .xri _ | .ori _ | .cpi _ => .szpCy
  | .popPsw => .all

/-- The addresses an instruction stores a byte to (R54 and the instruction's rule), in the state it starts from. -/
def storeAddrs (i : Instr) (s : State) : List Addr :=
  match i with
  | .nop | .lxiB _ | .inxB | .inrB | .dcrB | .mviB _ | .rlc | .undocumented08 | .dadB | .ldaxB | .dcxB | .inrC |
    .dcrC | .mviC _ | .rrc | .undocumented10 | .lxiD _ | .inxD | .inrD | .dcrD | .mviD _ | .ral |
    .undocumented18 | .dadD | .ldaxD | .dcxD | .inrE | .dcrE | .mviE _ | .rar | .undocumented20 | .lxiH _ |
    .inxH | .inrH | .dcrH | .mviH _ | .daa | .undocumented28 | .dadH | .lhld _ | .dcxH | .inrL | .dcrL | .mviL _
    | .cma | .undocumented30 | .lxiSp _ | .inxSp | .stc | .undocumented38 | .dadSp | .lda _ | .dcxSp | .inrA |
    .dcrA | .mviA _ | .cmc | .movBB | .movBC | .movBD | .movBE | .movBH | .movBL | .movBM | .movBA | .movCB |
    .movCC | .movCD | .movCE | .movCH | .movCL | .movCM | .movCA | .movDB | .movDC | .movDD | .movDE | .movDH |
    .movDL | .movDM | .movDA | .movEB | .movEC | .movED | .movEE | .movEH | .movEL | .movEM | .movEA | .movHB |
    .movHC | .movHD | .movHE | .movHH | .movHL | .movHM | .movHA | .movLB | .movLC | .movLD | .movLE | .movLH |
    .movLL | .movLM | .movLA | .hlt | .movAB | .movAC | .movAD | .movAE | .movAH | .movAL | .movAM | .movAA |
    .addB | .addC | .addD | .addE | .addH | .addL | .addM | .addA | .adcB | .adcC | .adcD | .adcE | .adcH |
    .adcL | .adcM | .adcA | .subB | .subC | .subD | .subE | .subH | .subL | .subM | .subA | .sbbB | .sbbC |
    .sbbD | .sbbE | .sbbH | .sbbL | .sbbM | .sbbA | .anaB | .anaC | .anaD | .anaE | .anaH | .anaL | .anaM |
    .anaA | .xraB | .xraC | .xraD | .xraE | .xraH | .xraL | .xraM | .xraA | .oraB | .oraC | .oraD | .oraE |
    .oraH | .oraL | .oraM | .oraA | .cmpB | .cmpC | .cmpD | .cmpE | .cmpH | .cmpL | .cmpM | .cmpA | .rnz | .popB
    | .jnz _ | .jmp _ | .adi _ | .rz | .ret | .jz _ | .undocumentedCB | .aci _ | .rnc | .popD | .jnc _ |
    .outPort _ | .sui _ | .rc | .undocumentedD9 | .jc _ | .inPort _ | .undocumentedDD | .sbi _ | .rpo | .popH |
    .jpo _ | .ani _ | .rpe | .pchl | .jpe _ | .xchg | .undocumentedED | .xri _ | .rp | .popPsw | .jp _ | .di |
    .ori _ | .rm | .sphl | .jm _ | .ei | .undocumentedFD | .cpi _ => []
  | .staxB => [readPair .bc s]
  | .staxD => [readPair .de s]
  | .shld a16 => [a16, a16 + 1]
  | .sta a16 => [a16]
  | .inrM | .dcrM | .mviM _ | .movMB | .movMC | .movMD | .movME | .movMH | .movML | .movMA => [readPair .hl s]
  | .cnz _ => if condTrue .nz s.flags then [s.sp - 1, s.sp - 2] else []
  | .pushB | .rst0 | .call _ | .rst1 | .pushD | .rst2 | .rst3 | .pushH | .rst4 | .rst5 | .pushPsw | .rst6 |
    .rst7 => [s.sp - 1, s.sp - 2]
  | .cz _ => if condTrue .z s.flags then [s.sp - 1, s.sp - 2] else []
  | .cnc _ => if condTrue .nc s.flags then [s.sp - 1, s.sp - 2] else []
  | .cc _ => if condTrue .c s.flags then [s.sp - 1, s.sp - 2] else []
  | .xthl => [s.sp, s.sp + 1]
  | .cpo _ => if condTrue .po s.flags then [s.sp - 1, s.sp - 2] else []
  | .cpe _ => if condTrue .pe s.flags then [s.sp - 1, s.sp - 2] else []
  | .cp _ => if condTrue .p s.flags then [s.sp - 1, s.sp - 2] else []
  | .cm _ => if condTrue .m s.flags then [s.sp - 1, s.sp - 2] else []


/-- The cycle costs of R310 and R311: the instruction, and whether its condition held. -/
def cost (i : Instr) (f : Flags) : Nat :=
  match i with
  | .rnz => if condTrue .nz f then 11 else 5
  | .rz => if condTrue .z f then 11 else 5
  | .rnc => if condTrue .nc f then 11 else 5
  | .rc => if condTrue .c f then 11 else 5
  | .rpo => if condTrue .po f then 11 else 5
  | .rpe => if condTrue .pe f then 11 else 5
  | .rp => if condTrue .p f then 11 else 5
  | .rm => if condTrue .m f then 11 else 5
  | .cnz _ => if condTrue .nz f then 17 else 11
  | .cz _ => if condTrue .z f then 17 else 11
  | .cnc _ => if condTrue .nc f then 17 else 11
  | .cc _ => if condTrue .c f then 17 else 11
  | .cpo _ => if condTrue .po f then 17 else 11
  | .cpe _ => if condTrue .pe f then 17 else 11
  | .cp _ => if condTrue .p f then 17 else 11
  | .cm _ => if condTrue .m f then 17 else 11
  | .nop | .rlc | .rrc | .ral | .rar | .daa | .cma | .stc | .cmc | .addB | .addC | .addD | .addE | .addH | .addL
    | .addA | .adcB | .adcC | .adcD | .adcE | .adcH | .adcL | .adcA | .subB | .subC | .subD | .subE | .subH |
    .subL | .subA | .sbbB | .sbbC | .sbbD | .sbbE | .sbbH | .sbbL | .sbbA | .anaB | .anaC | .anaD | .anaE |
    .anaH | .anaL | .anaA | .xraB | .xraC | .xraD | .xraE | .xraH | .xraL | .xraA | .oraB | .oraC | .oraD |
    .oraE | .oraH | .oraL | .oraA | .cmpB | .cmpC | .cmpD | .cmpE | .cmpH | .cmpL | .cmpA | .xchg | .di | .ei =>
    4
  | .inxB | .inrB | .dcrB | .dcxB | .inrC | .dcrC | .inxD | .inrD | .dcrD | .dcxD | .inrE | .dcrE | .inxH |
    .inrH | .dcrH | .dcxH | .inrL | .dcrL | .inxSp | .dcxSp | .inrA | .dcrA | .movBB | .movBC | .movBD | .movBE
    | .movBH | .movBL | .movBA | .movCB | .movCC | .movCD | .movCE | .movCH | .movCL | .movCA | .movDB | .movDC
    | .movDD | .movDE | .movDH | .movDL | .movDA | .movEB | .movEC | .movED | .movEE | .movEH | .movEL | .movEA
    | .movHB | .movHC | .movHD | .movHE | .movHH | .movHL | .movHA | .movLB | .movLC | .movLD | .movLE | .movLH
    | .movLL | .movLA | .movAB | .movAC | .movAD | .movAE | .movAH | .movAL | .movAA | .pchl | .sphl => 5
  | .staxB | .mviB _ | .ldaxB | .mviC _ | .staxD | .mviD _ | .ldaxD | .mviE _ | .mviH _ | .mviL _ | .mviA _ |
    .movBM | .movCM | .movDM | .movEM | .movHM | .movLM | .movMB | .movMC | .movMD | .movME | .movMH | .movML |
    .movMA | .movAM | .addM | .adcM | .subM | .sbbM | .anaM | .xraM | .oraM | .cmpM | .adi _ | .aci _ | .sui _ |
    .sbi _ | .ani _ | .xri _ | .ori _ | .cpi _ => 7
  | .lxiB _ | .dadB | .lxiD _ | .dadD | .lxiH _ | .dadH | .lxiSp _ | .inrM | .dcrM | .mviM _ | .dadSp | .popB |
    .jmp _ | .ret | .popD | .outPort _ | .inPort _ | .popH | .popPsw | .jnz _ | .jz _ | .jnc _ | .jc _ | .jpo _
    | .jpe _ | .jp _ | .jm _ => 10
  | .pushB | .rst0 | .rst1 | .pushD | .rst2 | .rst3 | .pushH | .rst4 | .rst5 | .pushPsw | .rst6 | .rst7 => 11
  | .sta _ | .lda _ => 13
  | .shld _ | .lhld _ => 16
  | .call _ => 17
  | .xthl => 18
  | .undocumented08 | .undocumented10 | .undocumented18 | .undocumented20 | .undocumented28 | .undocumented30 |
    .undocumented38 | .hlt | .undocumentedCB | .undocumentedD9 | .undocumentedDD | .undocumentedED |
    .undocumentedFD => 0

end Sys2Proof.Expect

open Sys2Proof Sys2Proof.Machine Sys2Proof.Expect

/-- At launch every register, flag, counter, latch, the shifter, the buttons and the scheduler hold the values of the
table of R42, whatever the parameters and the ROM. The values of AC, shifter, buttons, latches, counters and
halted are the spec's decisions D11, D15 and D17. (10_state.md, State summary and reset values,
70_reset_and_hazards.md, Reset and creation, 92_eei_decisions.md D11, 92_eei_decisions.md D15, 92_eei_decisions.md
D17) -/
def Obligations.LaunchFields : Prop :=
  ∀ (p : Params) (rom : List Byte),
    let s := State.launch p rom
    (∀ r, readReg r s = 0) ∧ s.sp = 0 ∧ s.pc = 0 ∧
    s.flags = { s := false, z := false, p := false, cy := false, ac := false } ∧
    s.interruptsEnabled = false ∧ s.nextWakeup.toNat = 16666 ∧ s.nextInterruptOp = 0xCF ∧
    s.shifter = { hi := 0, lo := 0, offset := 0 } ∧
    s.buttons = { coin := false, p1Start := false, p2Start := false, p1Left := false, p1Right := false,
                  p1Fire := false } ∧
    s.port3 = 0 ∧ s.port5 = 0 ∧ s.cycle = 0 ∧ s.icount = 0 ∧ s.halted = none ∧ s.params = p

/-- For a ROM image made of the four 2048-byte files H, G, F and E in that order, the launch memory holds the image in
cells 0 to 0x1FFF and zero in cells 0x2000 to 0x3FFF. (R58) -/
def Obligations.LaunchMemory : Prop :=
  ∀ (p : Params) (fileH fileG fileF fileE : List Byte),
    fileH.length = 2048 → fileG.length = 2048 → fileF.length = 2048 → fileE.length = 2048 →
    let rom := fileH ++ fileG ++ fileF ++ fileE
    ∀ k < 16384, memRead (BitVec.ofNat 16 k) (State.launch p rom) = if k < 8192 then rom.getD k 0 else 0

/-- For every value of the parameters and every ROM image the launch state meets Inv and SchedulerInv, and so does
State.reset. (10_state.md, Invariants, 70_reset_and_hazards.md, Reset and creation) -/
def Obligations.LaunchMeetsInvariants : Prop :=
  (∀ (p : Params) (rom : List Byte), (State.launch p rom).Inv ∧ (State.launch p rom).SchedulerInv) ∧
  State.reset.Inv ∧ State.reset.SchedulerInv

/-- From every state that meets Inv (memory in its canonical form, next_interrupt_op RST 1 or RST 2, a halt that
agrees with the opcode or port bytes in memory, with icount and PC), a step that answers a next state answers one
that meets Inv. That a halt keeps PC at the failing opcode is decision D15. (10_state.md, Invariants,
60_exceptions.md, Exceptions: the halt, 92_eei_decisions.md D15) -/
def Obligations.StepKeepsInvariant : Prop :=
  ∀ s t : State, s.Inv → step s = .next t → t.Inv

/-- From every state that meets SchedulerInv (next_wakeup a multiple of HALF_FRAME, RST 1 announced at odd multiples
and RST 2 at even ones, fewer than 18 cycles overdue, at most one interval ahead) whose cycle counter is below
2^63, a step keeps SchedulerInv. It rests on the cost table (decision D6). (10_state.md, Invariants,
60_exceptions.md, The interrupt scheduler, 70_reset_and_hazards.md, Cycle accounting, 92_eei_decisions.md D6) -/
def Obligations.StepKeepsSchedulerClock : Prop :=
  ∀ s t : State, s.SchedulerInv → s.cycle.toNat < 2 ^ 63 → step s = .next t → t.SchedulerInv

/-- Every state reached from a launch by steps and by button inputs between them meets Inv and has the parameters of
the launch. That a run is made of these alone is an assumption about the host, which R293 marks as such: decision
D29, log entry 12 (PRESUMED). (10_state.md, Invariants, 70_reset_and_hazards.md, Reset and creation,
60_exceptions.md R293, The run and the host, 92_eei_decisions.md D29) -/
def Obligations.ReachableStatesMeetInvariant : Prop :=
  ∀ (p : Params) (rom : List Byte) (s : State), Reachable p rom s → s.Inv ∧ s.params = p

/-- If the instruction a step runs is not IN 1, then with any other buttons the step answers the same next state but
for the buttons, which it keeps. (10_state.md, Control state, 44_io_port_layer.md, Buttons and DIP switches) -/
def Obligations.ButtonsReachOnlyInPort1 : Prop :=
  ∀ (s t : State) (b : Buttons), fetched (schedulerPhase s) ≠ .inPort 1 → step s = .next t →
    t.buttons = s.buttons ∧ step (setButtons b s) = .next (setButtons b t)

/-- For every instruction, with every operand value, decoding its bytes followed by any bytes gives the instruction
and the bytes that follow. (30_encoding.md, The opcode map, 30_encoding.md, Field codes, 30_encoding.md, Lengths
and formats) -/
def Obligations.DecodeOfEncode : Prop :=
  ∀ (i : Instr) (rest : List Byte), decode (encode i ++ rest) = .ok (i, rest)

/-- If the decoder reads an instruction from a byte string, the string is that instruction's encoding followed by the
rest: no two encodings share an instruction and no bit is ignored. (30_encoding.md, The opcode map,
30_encoding.md, Lengths and formats) -/
def Obligations.EncodeOfDecode : Prop :=
  ∀ (bytes rest : List Byte) (i : Instr), decode bytes = .ok (i, rest) → bytes = encode i ++ rest

/-- Decoding fails exactly on the empty string, and on a string that is shorter than the length of its opcode; the
error says which. No opcode byte is rejected. (30_encoding.md, Lengths and formats, 30_encoding.md, Admission) -/
def Obligations.DecodeRejectsOnlyTruncated : Prop :=
  ∀ (bytes : List Byte) (e : DecodeError), decode bytes = .error e ↔
    (bytes = [] ∧ e = .noOpcode) ∨
    (∃ op rest, bytes = op :: rest ∧ bytes.length < (encode (decodeBytes op 0 0)).length ∧
      e = .missingOperand op)

/-- For every opcode byte, an instruction that is decoded from it has 3 bytes for the 26 opcodes of R83's first list,
2 for the 18 of its second, and 1 for every other, whatever its operand bytes. (R83) -/
def Obligations.LengthsOfOpcodes : Prop :=
  ∀ op b1 b2 : Byte, (encode (decodeBytes op b1 b2)).length =
    if op ∈ [0x01#8, 0x11, 0x21, 0x31, 0x22, 0x2A, 0x32, 0x3A, 0xC3, 0xC2, 0xCA, 0xD2, 0xDA, 0xE2, 0xEA, 0xF2, 0xFA,
             0xCD, 0xC4, 0xCC, 0xD4, 0xDC, 0xE4, 0xEC, 0xF4, 0xFC] then 3
    else if op ∈ [0x06#8, 0x0E, 0x16, 0x1E, 0x26, 0x2E, 0x3E, 0x36, 0xC6, 0xCE, 0xD6, 0xDE, 0xE6, 0xEE, 0xF6, 0xFE,
                  0xD3, 0xDB] then 2
    else 1

/-- The byte strings of the examples of the instruction rules decode to their instructions; the unlisted opcodes are
exactly 0x36, 0x3F, 0xF3 and 0xF9, and the halting ones exactly the 13 of R79. (40_data_transfer.md,
41_arithmetic_logic.md, 42_control_transfer.md, 43_machine_control.md, 30_encoding.md, Admission) -/
def Obligations.SampleEncodings : Prop :=
  decode [0x78] = .ok (.movAB, []) ∧ decode [0x7E] = .ok (.movAM, []) ∧ decode [0x77] = .ok (.movMA, []) ∧
  decode [0x06, 0x03] = .ok (.mviB 0x03, []) ∧ decode [0x36, 0x00] = .ok (.mviM 0x00, []) ∧
  decode [0x3A, 0xC0, 0x20] = .ok (.lda 0x20C0, []) ∧ decode [0x32, 0xE9, 0x20] = .ok (.sta 0x20E9, []) ∧
  decode [0x1A] = .ok (.ldaxD, []) ∧ decode [0x31, 0x00, 0x24] = .ok (.lxiSp 0x2400, []) ∧
  decode [0x22, 0x00, 0x20] = .ok (.shld 0x2000, []) ∧ decode [0xC3, 0xD4, 0x18] = .ok (.jmp 0x18D4, []) ∧
  decode [0xC2, 0x0A, 0x00] = .ok (.jnz 0x000A, []) ∧ decode [0xCF] = .ok (.rst1, []) ∧ decode [0xD7] = .ok (.rst2, []) ∧
  decode [0xDB, 0x03] = .ok (.inPort 3, []) ∧ decode [0xD3, 0x04] = .ok (.outPort 4, []) ∧
  decode [0xF5] = .ok (.pushPsw, []) ∧ decode [0xFE, 0x20] = .ok (.cpi 0x20, []) ∧ decode [0xEB] = .ok (.xchg, []) ∧
  (∀ op : Byte, (decodeBytes op 0 0).tier = .unlisted ↔ op ∈ [0x36#8, 0x3F, 0xF3, 0xF9]) ∧
  (∀ op : Byte, (decodeBytes op 0 0).tier = .halting ↔ op ∈ haltingOpcodes.map (fun x => x.2))

/-- From a state that has not halted, if the bytes at the PC that the scheduler phase leaves decode to i, then the
step is exec i on the state the scheduler phase leaves. exec advances PC over the instruction itself. When no
interrupt is due the scheduler phase changes nothing. (60_exceptions.md, The step, 30_encoding.md, The instruction
cycle) -/
def Obligations.StepRunsDecodedInstruction : Prop :=
  ∀ (s : State) (i : Instr) (rest : List Byte), s.halted = none →
    let m := schedulerPhase s
    decode [memRead m.pc m, memRead (m.pc + 1) m, memRead (m.pc + 2) m] = .ok (i, rest) →
    step s = exec i m ∧ (s.cycle.toNat < s.nextWakeup.toNat → m = s)

/-- If cycle is at least next_wakeup, unsigned, the scheduler phase injects next_interrupt_op when interrupts are
enabled, and in either case adds 16666 to next_wakeup and toggles next_interrupt_op with 0x18; otherwise it
changes nothing. (R277) -/
def Obligations.SchedulerRule : Prop :=
  ∀ s : State, schedulerPhase s =
    if s.nextWakeup.toNat ≤ s.cycle.toNat then
      { (if s.interruptsEnabled = true then inject s.nextInterruptOp s else s) with
        nextWakeup := BitVec.ofNat 64 (s.nextWakeup.toNat + 16666)
        nextInterruptOp := s.nextInterruptOp ^^^ 0x18 }
    else s

/-- When an interrupt is delivered, the scheduler phase writes the high byte of PC at SP-1 and the low byte at SP-2,
leaves every other byte, moves SP down by 2, sets PC to 0x0008 or 0x0010, adds 11 to cycle (decision D26) and 1 to
icount, clears the enable exactly if INTA_CLEARS_IE (decision D12), and keeps flags, registers and devices.
(60_exceptions.md, The interrupt scheduler, 92_eei_decisions.md D12, 92_eei_decisions.md D26) -/
def Obligations.InterruptEntry : Prop :=
  ∀ s : State, s.Inv → injects s = true →
    let t := schedulerPhase s
    memRead (s.sp - 1) t = hiByte s.pc ∧ memRead (s.sp - 2) t = loByte s.pc ∧
    (∀ a : Addr, a &&& 0x3FFF ≠ (s.sp - 1) &&& 0x3FFF → a &&& 0x3FFF ≠ (s.sp - 2) &&& 0x3FFF →
      memRead a t = memRead a s) ∧
    t.sp = s.sp - 2 ∧ t.pc = (if s.nextInterruptOp = 0xCF then 0x0008 else 0x0010) ∧
    t.interruptsEnabled = !s.params.intaClearsIe ∧
    t.cycle = s.cycle + 11 ∧ t.icount = s.icount + 1 ∧
    (∀ r, readReg r t = readReg r s) ∧ t.flags = s.flags ∧ t.shifter = s.shifter ∧ t.buttons = s.buttons ∧
    t.port3 = s.port3 ∧ t.port5 = s.port5 ∧ t.halted = s.halted ∧ t.params = s.params

/-- After interrupt entry, RET answers a state with the interrupted PC and SP, all registers and flags as before, and
the enable as the entry left it. (60_exceptions.md, The interrupt scheduler, 42_control_transfer.md) -/
def Obligations.InterruptReturnResumes : Prop :=
  ∀ s : State, s.Inv → injects s = true →
    ∃ u, exec .ret (schedulerPhase s) = .next u ∧ u.pc = s.pc ∧ u.sp = s.sp ∧ (∀ r, readReg r u = readReg r s) ∧
      u.flags = s.flags ∧ u.interruptsEnabled = (schedulerPhase s).interruptsEnabled

/-- From a state that has not halted a step answers a next state, and that state has halted exactly if the opcode is
in the halting set, or is unlisted and not admitted, or is IN or OUT with an undefined port. The causes are those
of R78, R79, R250 and R272 with decisions D1, D2, D3 and D15; that a halting step answers a next state with halted
set is R271 as log entry 4 (DEDUCED) reads it. (30_encoding.md R78, 30_encoding.md R79, 44_io_port_layer.md R250,
60_exceptions.md R271, 60_exceptions.md R272, 60_exceptions.md R273, 92_eei_decisions.md D1, 92_eei_decisions.md
D2, 92_eei_decisions.md D3, 92_eei_decisions.md D15) -/
def Obligations.OnlyListedCausesHalt : Prop :=
  ∀ s : State, s.halted = none →
    let m := schedulerPhase s
    let op := memRead m.pc m
    let port := memRead (m.pc + 1) m
    ∃ t, step s = .next t ∧ (t.halted ≠ none ↔
      op ∈ haltingOpcodes.map (fun x => x.2) ∨
      (op ∈ [0x36#8, 0x3F, 0xF3, 0xF9] ∧ s.params.admitUnlisted = false) ∨
      (op = 0xDB ∧ port ∉ [1#8, 2, 3]) ∨ (op = 0xD3 ∧ port ∉ [1#8, 2, 3, 4, 5, 6]))

/-- A halted state has no further step: step stops with the fault that names the reason. If a step halts, the next
state is the one the scheduler phase left with only halted written: the reason holds the port byte for IN and OUT
and the opcode byte otherwise, and the icount and PC of that state (decision D15). (60_exceptions.md, Exceptions:
the halt, 92_eei_decisions.md D15) -/
def Obligations.HaltDiscardsEnginePhase : Prop :=
  (∀ (s : State) (reason : HaltReason), s.halted = some reason → step s = .fault (.halted reason)) ∧
  ∀ (s t : State) (reason : HaltReason), s.halted = none → step s = .next t → t.halted = some reason →
    let m := schedulerPhase s
    let op := memRead m.pc m
    let port := memRead (m.pc + 1) m
    t = haltedWith reason m ∧
    reason = (if op = 0xDB then .unknownInPort port m.icount m.pc
      else if op = 0xD3 then .unknownOutPort port m.icount m.pc
      else .unknownOpcode op m.icount m.pc)

/-- A step that does not halt adds 1 to icount for its instruction and 1 for an injection, and adds to cycle the cost
of the instruction, by the table of R310 and R311 (decision D6), and 11 for an injection (decision D26).
(60_exceptions.md, Privilege, timers, devices, multiprocessing, debug, power, 70_reset_and_hazards.md, Cycle
accounting, 92_eei_decisions.md D6, 92_eei_decisions.md D26) -/
def Obligations.StepCountsRetirements : Prop :=
  ∀ s t : State, step s = .next t → t.halted = none →
    let m := schedulerPhase s
    t.icount = s.icount + (if injects s then 2 else 1) ∧
    t.cycle = s.cycle + BitVec.ofNat 64 ((if injects s then 11 else 0) + cost (fetched m) m.flags)

/-- After EI the very next scheduler phase injects a due interrupt. With ADMIT_UNLISTED and INTA_CLEARS_IE false, a
step from a state with interrupts enabled leaves them enabled (decisions D1 and D12). (43_machine_control.md,
70_reset_and_hazards.md, Hazards, 92_eei_decisions.md D1, 92_eei_decisions.md D12) -/
def Obligations.EnableAndDisableRules : Prop :=
  (∀ s t : State, exec .ei s = .next t → s.nextWakeup.toNat ≤ t.cycle.toNat →
    injects t = true ∧ schedulerPhase t = rearm (inject s.nextInterruptOp t)) ∧
  (∀ s t : State, s.params.admitUnlisted = false → s.params.intaClearsIe = false → s.interruptsEnabled = true →
    step s = .next t → t.interruptsEnabled = true)

/-- A byte read at an address gives the byte of the cell addr AND 0x3FFF, so the four aliases of an address read
alike; after a byte is written, every address of the same cell reads the byte written and every other address
reads as before. A write keeps the canonical form. (R52, R53) -/
def Obligations.MemoryReadWrite : Prop :=
  ∀ (s : State) (a b : Addr) (v : Byte), s.mem.wf = true →
    memRead a s = s.mem.read (a &&& 0x3FFF).toNat ∧
    memRead (a + 0x4000) s = memRead a s ∧ memRead (a + 0x8000) s = memRead a s ∧
    memRead (a + 0xC000) s = memRead a s ∧
    memRead a (memWrite b v s) = (if a &&& 0x3FFF = b &&& 0x3FFF then v else memRead a s) ∧
    (memWrite b v s).mem.wf = true

/-- Push16 writes the high byte at SP-1 and then the low byte at SP-2 and leaves SP there; Pop16 reads the low byte at
SP and the high byte at SP+1 and leaves SP at SP+2; a pop after a push answers the value pushed and restores SP,
at every SP. The primitives are those of R56; that Pop16 inverts Push16 is R125, which the spec derives.
(20_memory.md R56, 40_data_transfer.md R125) -/
def Obligations.StackPrimitives : Prop :=
  (∀ (s : State) (v : Addr), push16 v s = pushed v s) ∧
  (∀ s : State, pop16 s = (stackTop s, { s with sp := s.sp + 2 })) ∧
  (∀ (s : State) (v : Addr), s.mem.wf = true →
    (pop16 (push16 v s)).1 = v ∧ (pop16 (push16 v s)).2.sp = s.sp ∧
    memRead (s.sp - 1) (push16 v s) = hiByte v ∧ memRead (s.sp - 2) (push16 v s) = loByte v ∧
    (push16 v s).sp = s.sp - 2)

/-- A register reads as its own field, a write to one changes no other field, a pair reads as high*256 + low, and
writing a pair writes v[15:8] to its high register and v[7:0] to its low one. (R21) -/
def Obligations.RegisterAndPairViews : Prop :=
  (∀ (s : State) (v : Byte), writeReg .b v s = { s with b := v } ∧ writeReg .c v s = { s with c := v } ∧
    writeReg .d v s = { s with d := v } ∧ writeReg .e v s = { s with e := v } ∧ writeReg .h v s = { s with h := v } ∧
    writeReg .l v s = { s with l := v } ∧ writeReg .a v s = { s with a := v }) ∧
  (∀ s : State, readReg .b s = s.b ∧ readReg .c s = s.c ∧ readReg .d s = s.d ∧ readReg .e s = s.e ∧
    readReg .h s = s.h ∧ readReg .l s = s.l ∧ readReg .a s = s.a) ∧
  (∀ s : State, (readPair .bc s).toNat = s.b.toNat * 256 + s.c.toNat ∧
    (readPair .de s).toNat = s.d.toNat * 256 + s.e.toNat ∧ (readPair .hl s).toNat = s.h.toNat * 256 + s.l.toNat ∧
    readPair .sp s = s.sp) ∧
  (∀ (s : State) (v : Addr), let hi := byte (v.toNat / 256); let lo := byte (v.toNat % 256)
    writePair .bc v s = { s with b := hi, c := lo } ∧ writePair .de v s = { s with d := hi, e := lo } ∧
    writePair .hl v s = { s with h := hi, l := lo } ∧ writePair .sp v s = { s with sp := v })

/-- After any store of a byte to the address in PC or to an alias of it, the instruction fetched there has that byte
as its opcode and the old bytes as its operands. (20_memory.md, Ordering, 70_reset_and_hazards.md, Hazards) -/
def Obligations.StoredByteIsFetchedNext : Prop :=
  ∀ (s : State) (a : Addr) (v : Byte), s.mem.wf = true → a &&& 0x3FFF = s.pc &&& 0x3FFF →
    fetchInstr (memWrite a v s) = decodeBytes v (memRead (s.pc + 1) s) (memRead (s.pc + 2) s)

/-- For the 49 register pairs MOV r,r' is 01 ddd sss, and runs from every state: the destination takes the source's
value, PC + 1, 5 cycles, nothing else. The cycle figures and bit patterns are the spec's general knowledge (log
entry 11). (R100) -/
def Obligations.MovRegister : Prop :=
  ∀ (dst src : Reg8) (s : State),
    EncodedAs (.mov dst src) [byte (64 + 8 * regCode dst + regCode src)] ∧
    exec (.mov dst src) s = .next (done 1 5 (writeReg dst (readReg src s) s))

/-- MOV r,M is 01 ddd 110 and loads the byte at HL, read before H or L is written; MOV M,r is 01 110 sss and stores
the register to HL; each runs from every state with PC + 1 and 7 cycles, nothing else changed; 0x76 is not MOV
M,M. The cycle figures and bit patterns are the spec's general knowledge (log entry 11). (R101, R102) -/
def Obligations.MovMemory : Prop :=
  ∀ (r : Reg8) (s : State),
    EncodedAs (.movFromM r) [byte (64 + 8 * regCode r + 6)] ∧
    exec (.movFromM r) s = .next (done 1 7 (writeReg r (memRead (word16 s.h s.l) s) s)) ∧
    EncodedAs (.movToM r) [byte (64 + 8 * 6 + regCode r)] ∧
    exec (.movToM r) s = .next (done 1 7 (memWrite (word16 s.h s.l) (readReg r s) s)) ∧
    decode [0x76] = .ok (.hlt, [])

/-- MVI r,d8 is 00 ddd 110 d8 and runs from every state: the register takes d8, PC + 2, 7 cycles, nothing else. The
cycle figures and bit patterns are the spec's general knowledge (log entry 11). (R103) -/
def Obligations.MviRegister : Prop :=
  ∀ (r : Reg8) (d8 : Byte) (s : State),
    EncodedAs (.mvi r d8) [byte (8 * regCode r + 6), d8] ∧
    exec (.mvi r d8) s = .next (done 2 7 (writeReg r d8 s))

/-- LDA a16 is 0x3A lo hi and LDAX is 000 r1 1010; each loads A from the byte at a16, BC or DE, runs from every state,
and changes nothing else but PC, cycle (13, 7) and icount. The cycle figures and bit patterns are the spec's
general knowledge (log entry 11). (R107, R109) -/
def Obligations.LoadAccumulator : Prop :=
  (∀ (a16 : Addr) (s : State), EncodedAs (.lda a16) [0x3A, loByte a16, hiByte a16] ∧
    exec (.lda a16) s = .next (done 3 13 { s with a := memRead a16 s })) ∧
  (∀ (p : IndexPair) (s : State), EncodedAs (.ldax p) [byte (16 * pairCode (indexPairOf p) + 10)] ∧
    exec (.ldax p) s = .next (done 1 7 { s with a := memRead (readPair (indexPairOf p) s) s }))

/-- STA a16 is 0x32 lo hi and STAX is 000 r1 0010; each stores A to the byte at a16, BC or DE, runs from every state,
and changes nothing else but PC, cycle (13, 7) and icount. The cycle figures and bit patterns are the spec's
general knowledge (log entry 11). (R108, R110) -/
def Obligations.StoreAccumulator : Prop :=
  (∀ (a16 : Addr) (s : State), EncodedAs (.sta a16) [0x32, loByte a16, hiByte a16] ∧
    exec (.sta a16) s = .next (done 3 13 (memWrite a16 s.a s))) ∧
  (∀ (p : IndexPair) (s : State), EncodedAs (.stax p) [byte (16 * pairCode (indexPairOf p) + 2)] ∧
    exec (.stax p) s = .next (done 1 7 (memWrite (readPair (indexPairOf p) s) s.a s)))

/-- LXI is 00 rp 0001 lo hi and runs from every state: the pair or SP takes d16, PC + 3, 10 cycles, nothing else. The
byte order is decision D4. The cycle figures and bit patterns are the spec's general knowledge (log entry 11).
(40_data_transfer.md, 16-bit loads and exchanges, 92_eei_decisions.md D4) -/
def Obligations.LxiPair : Prop :=
  ∀ (p : RegPair) (d16 : Addr) (s : State),
    EncodedAs (.lxi p d16) [byte (16 * pairCode p + 1), byte (d16.toNat % 256), byte (d16.toNat / 256)] ∧
    exec (.lxi p d16) s = .next (done 3 10 (writePair p d16 s))

/-- LHLD a16 is 0x2A lo hi: L takes the byte at a16 and H the byte at a16+1 modulo 2^16. SHLD a16 is 0x22 lo hi: it
stores L at a16 and then H at a16+1. Each runs from every state with PC + 3 and 16 cycles. The cycle figures and
bit patterns are the spec's general knowledge (log entry 11). (R112, R113) -/
def Obligations.LoadStoreHlDirect : Prop :=
  ∀ (a16 : Addr) (s : State),
    EncodedAs (.lhld a16) [0x2A, loByte a16, hiByte a16] ∧
    exec (.lhld a16) s = .next (done 3 16 { s with l := memRead a16 s, h := memRead (a16 + 1) s }) ∧
    EncodedAs (.shld a16) [0x22, loByte a16, hiByte a16] ∧
    exec (.shld a16) s = .next (done 3 16 (memWrite (a16 + 1) s.h (memWrite a16 s.l s)))

/-- XCHG is 0xEB: H swaps with D and L with E (4 cycles). XTHL is 0xE3: both bytes at SP and SP+1 are read, then L and
H are stored there, and L and H take the bytes read; SP is unchanged (18 cycles). Each runs from every state. The
cycle figures and bit patterns are the spec's general knowledge (log entry 11). (R114, R115) -/
def Obligations.Exchanges : Prop :=
  ∀ s : State,
    EncodedAs .xchg [0xEB] ∧
    exec .xchg s = .next (done 1 4 { s with d := s.h, e := s.l, h := s.d, l := s.e }) ∧
    EncodedAs .xthl [0xE3] ∧
    exec .xthl s = .next (done 1 18
      { memWrite (s.sp + 1) s.h (memWrite s.sp s.l s) with l := memRead s.sp s, h := memRead (s.sp + 1) s })

/-- PUSH is 11 rp 0101: the high register is written at SP-1 and the low one at SP-2, and SP falls by 2 (11 cycles).
POP is 11 rp 0001: the low register is read from SP and the high one from SP+1, and SP rises by 2 (10 cycles).
Each runs from every state. The cycle figures and bit patterns are the spec's general knowledge (log entry 11).
(R120, R122) -/
def Obligations.PushPopPair : Prop :=
  ∀ (p : PushPair) (s : State),
    EncodedAs (.push p) [byte (192 + 16 * pairCode (pushPairOf p) + 5)] ∧
    exec (.push p) s = .next (done 1 11 (pushed (readPair (pushPairOf p) s) s)) ∧
    EncodedAs (.pop p) [byte (192 + 16 * pairCode (pushPairOf p) + 1)] ∧
    exec (.pop p) s = .next (done 1 10 (writePair (pushPairOf p) (stackTop s) { s with sp := s.sp + 2 }))

/-- PUSH PSW is 0xF5: A is written at SP-1 and the flag byte 128*S + 64*Z + 16*AC + 4*P + 2 + CY at SP-2, SP falls by
2, 11 cycles, from every state. That bits 3 and 5 are 0 is decision D10 (log entry 7). (40_data_transfer.md,
Stack, 10_state.md, Flags (8080_alu_flags), 92_eei_decisions.md D10) -/
def Obligations.PushPsw : Prop :=
  ∀ s : State, EncodedAs .pushPsw [0xF5] ∧
    exec .pushPsw s = .next (done 1 11 (pushed (word16 s.a (flagByte s.flags)) s))

/-- POP PSW is 0xF1: A takes the byte at SP+1, the flags S, Z, AC, P and CY take bits 7, 6, 4, 2 and 0 of the byte at
SP, SP rises by 2, 10 cycles, from every state; PUSH PSW then POP PSW restores A and all five flags. The cycle
figures and bit patterns are the spec's general knowledge (log entry 11). (R123) -/
def Obligations.PopPsw : Prop :=
  (∀ s : State, EncodedAs .popPsw [0xF1] ∧
    let f := (memRead s.sp s).toNat
    exec .popPsw s = .next (done 1 10 { s with
      a := memRead (s.sp + 1) s
      flags := { s := f.testBit 7, z := f.testBit 6, ac := f.testBit 4, p := f.testBit 2, cy := f.testBit 0 }
      sp := s.sp + 2 })) ∧
  (∀ s : State, s.mem.wf = true → ∃ t, runAll [.pushPsw, .popPsw] s = .next t ∧ t.a = s.a ∧ t.flags = s.flags ∧
    t.sp = s.sp)

/-- With ADMIT_UNLISTED true, MVI M stores d8 to HL (10 cycles), CMC inverts CY (4), DI clears the enable (4) and SPHL
copies HL to SP (5); nothing else changes but PC, cycle and icount. Their effects are decisions D1 and D19.
(30_encoding.md, Admission, 92_eei_decisions.md D1, 92_eei_decisions.md D19) -/
def Obligations.UnlistedAdmitted : Prop :=
  ∀ s : State, s.params.admitUnlisted = true →
    (∀ d8, exec (.mviM d8) s = .next (done 2 10 (memWrite (word16 s.h s.l) d8 s))) ∧
    exec .cmc s = .next (done 1 4 { s with flags := { s.flags with cy := !s.flags.cy } }) ∧
    exec .di s = .next (done 1 4 { s with interruptsEnabled := false }) ∧
    exec .sphl s = .next (done 1 5 { s with sp := word16 s.h s.l })

/-- HLT and the 12 undocumented opcodes halt from every state with UnknownOpcode, their opcode byte, icount and PC,
and change nothing else; MVI M, CMC, DI and SPHL do the same when ADMIT_UNLISTED is false (decisions D1, D2, D3,
D15). (43_machine_control.md, 30_encoding.md, Admission, 92_eei_decisions.md D1, 92_eei_decisions.md D2,
92_eei_decisions.md D3, 92_eei_decisions.md D15) -/
def Obligations.HaltingOpcodesHalt : Prop :=
  (∀ x ∈ haltingOpcodes, EncodedAs x.1 [x.2] ∧
    ∀ s, exec x.1 s = .next (haltedWith (.unknownOpcode x.2 s.icount s.pc) s)) ∧
  (∀ d8, EncodedAs (.mviM d8) [0x36, d8]) ∧ EncodedAs .cmc [0x3F] ∧ EncodedAs .di [0xF3] ∧ EncodedAs .sphl [0xF9] ∧
  (∀ s : State, s.params.admitUnlisted = false →
    (∀ d8, exec (.mviM d8) s = .next (haltedWith (.unknownOpcode 0x36 s.icount s.pc) s)) ∧
    exec .cmc s = .next (haltedWith (.unknownOpcode 0x3F s.icount s.pc) s) ∧
    exec .di s = .next (haltedWith (.unknownOpcode 0xF3 s.icount s.pc) s) ∧
    exec .sphl s = .next (haltedWith (.unknownOpcode 0xF9 s.icount s.pc) s))

/-- ADD, ADC, SUB, SBB, ANA, XRA, ORA and CMP of each register are 10 ooo sss and run from every state: A (but for
CMP) and CY are those of the exact sum or difference or of the bitwise operation, S, Z and P follow from the
result, AC is kept, PC + 1, 4 cycles, nothing else. The cycle figures and bit patterns are the spec's general
knowledge (log entry 11). (R140, R143, R146, R149, R152, R155, R158, R161, R164, R165, R166) -/
def Obligations.AluRegister : Prop :=
  ∀ (op : AluOp) (r : Reg8) (s : State),
    EncodedAs (.aluR op r) [byte (128 + 8 * aluCode op + regCode r)] ∧
    exec (.aluR op r) s = .next (aluState op (readReg r s) 1 4 s)

/-- ADD, ADC, SUB, SBB, ANA, XRA, ORA and CMP of the byte at HL are 10 ooo 110 and run from every state, with the
results of the register form, PC + 1 and 7 cycles. The cycle figures and bit patterns are the spec's general
knowledge (log entry 11). (R141, R144, R147, R150, R153, R156, R159, R162, R164, R165, R166) -/
def Obligations.AluMemory : Prop :=
  ∀ (op : AluOp) (s : State),
    EncodedAs (.aluM op) [byte (128 + 8 * aluCode op + 6)] ∧
    exec (.aluM op) s = .next (aluState op (memRead (word16 s.h s.l) s) 1 7 s)

/-- ADI, ACI, SUI, SBI, ANI, XRI, ORI and CPI are 11 ooo 110 d8 and run from every state, with the results of the
register form, PC + 2 and 7 cycles. The cycle figures and bit patterns are the spec's general knowledge (log entry
11). (R142, R145, R148, R151, R154, R157, R160, R163, R164, R165, R166) -/
def Obligations.AluImmediate : Prop :=
  ∀ (op : AluOp) (d8 : Byte) (s : State),
    EncodedAs (.aluI op d8) [byte (192 + 8 * aluCode op + 6), d8] ∧
    exec (.aluI op d8) s = .next (aluState op d8 2 7 s)

/-- INR r is 00 ddd 100 and DCR r is 00 ddd 101; from every state the register takes v+1 or v-1 modulo 256, S, Z and P
follow from it, CY and AC are kept, PC + 1, 5 cycles; DCR after INR and INR after DCR restore the register and
keep CY. The cycle figures and bit patterns are the spec's general knowledge (log entry 11). (R167, R170, R172) -/
def Obligations.IncrementDecrementRegister : Prop :=
  (∀ (r : Reg8) (s : State),
    let up := byte ((readReg r s).toNat + 1)
    let down := byte ((readReg r s).toNat + 255)
    EncodedAs (.inr r) [byte (8 * regCode r + 4)] ∧
    exec (.inr r) s = .next { done 1 5 (writeReg r up s) with flags := resultFlags up s.flags.cy s.flags } ∧
    EncodedAs (.dcr r) [byte (8 * regCode r + 5)] ∧
    exec (.dcr r) s = .next { done 1 5 (writeReg r down s) with flags := resultFlags down s.flags.cy s.flags }) ∧
  (∀ (r : Reg8) (s : State),
    (∃ t, runAll [.inr r, .dcr r] s = .next t ∧ readReg r t = readReg r s ∧ t.flags.cy = s.flags.cy) ∧
    (∃ t, runAll [.dcr r, .inr r] s = .next t ∧ readReg r t = readReg r s ∧ t.flags.cy = s.flags.cy))

/-- INR M is 0x34 and DCR M is 0x35; from every state the byte at HL is replaced by v+1 or v-1 modulo 256, S, Z and P
follow from it, CY and AC are kept, PC + 1, 10 cycles. The cycle figures and bit patterns are the spec's general
knowledge (log entry 11). (R171, R173) -/
def Obligations.IncrementDecrementMemory : Prop :=
  ∀ s : State,
    let v := (memRead (word16 s.h s.l) s).toNat
    EncodedAs .inrM [0x34] ∧
    exec .inrM s = .next { done 1 10 (memWrite (word16 s.h s.l) (byte (v + 1)) s) with
      flags := resultFlags (byte (v + 1)) s.flags.cy s.flags } ∧
    EncodedAs .dcrM [0x35] ∧
    exec .dcrM s = .next { done 1 10 (memWrite (word16 s.h s.l) (byte (v + 255)) s) with
      flags := resultFlags (byte (v + 255)) s.flags.cy s.flags }

/-- INX is 00 rp 0011 and DCX is 00 rp 1011; from every state the pair or SP takes its value plus 1, or plus 65535,
modulo 65536; PC + 1, 5 cycles, no flag, nothing else. The cycle figures and bit patterns are the spec's general
knowledge (log entry 11). (R174, R175) -/
def Obligations.IncrementDecrementPair : Prop :=
  ∀ (p : RegPair) (s : State),
    EncodedAs (.inx p) [byte (16 * pairCode p + 3)] ∧
    exec (.inx p) s = .next (done 1 5 (writePair p (BitVec.ofNat 16 ((readPair p s).toNat + 1)) s)) ∧
    EncodedAs (.dcx p) [byte (16 * pairCode p + 11)] ∧
    exec (.dcx p) s = .next (done 1 5 (writePair p (BitVec.ofNat 16 ((readPair p s).toNat + 65535)) s))

/-- DAD adds a pair or SP to HL with CY the 17th bit of the sum (10 cycles). RLC, RRC, RAL and RAR rotate A by one
bit, with CY the bit shifted out (4 cycles). S, Z, P and AC are kept. DAA is a no-op of 4 cycles. Which flags they
write are decisions D9 and D8, and DAA is decision D27. (41_arithmetic_logic.md, Rotates, 41_arithmetic_logic.md,
Increment and decrement, 41_arithmetic_logic.md, Accumulator and carry operations, 92_eei_decisions.md D8,
92_eei_decisions.md D9, 92_eei_decisions.md D27) -/
def Obligations.DadRotatesDaa : Prop :=
  (∀ (p : RegPair) (s : State), EncodedAs (.dad p) [byte (16 * pairCode p + 9)] ∧
    let t := (readPair .hl s).toNat + (readPair p s).toNat
    exec (.dad p) s = .next { done 1 10 (writePair .hl (BitVec.ofNat 16 t) s) with
      flags := { s.flags with cy := decide (65536 ≤ t) } }) ∧
  (EncodedAs .rlc [0x07] ∧ EncodedAs .rrc [0x0F] ∧ EncodedAs .ral [0x17] ∧ EncodedAs .rar [0x1F] ∧
    EncodedAs .daa [0x27]) ∧
  (∀ s : State,
    let n := s.a.toNat
    let c := s.flags.cy.toNat
    let rotated := fun (v : Nat) (cy : Bool) => { done 1 4 s with a := byte v, flags := { s.flags with cy := cy } }
    exec .rlc s = .next (rotated (2 * n % 256 + n / 128) (decide (128 ≤ n))) ∧
    exec .rrc s = .next (rotated (n / 2 + 128 * (n % 2)) (decide (n % 2 = 1))) ∧
    exec .ral s = .next (rotated (2 * n % 256 + c) (decide (128 ≤ n))) ∧
    exec .rar s = .next (rotated (n / 2 + 128 * c) (decide (n % 2 = 1))) ∧
    exec .daa s = .next (done 1 4 s))

/-- CMA is 0x2F: A takes 255 - A and no flag changes. STC is 0x37: CY takes 1 and nothing else changes. Each runs from
every state with PC + 1 and 4 cycles; CMA twice restores A. The cycle figures and bit patterns are the spec's
general knowledge (log entry 11). (R180, R183) -/
def Obligations.ComplementAndSetCarry : Prop :=
  (∀ s : State,
    EncodedAs .cma [0x2F] ∧ exec .cma s = .next (done 1 4 { s with a := byte (255 - s.a.toNat) }) ∧
    EncodedAs .stc [0x37] ∧ exec .stc s = .next (done 1 4 { s with flags := { s.flags with cy := true } })) ∧
  (∀ s : State, ∃ t, runAll [.cma, .cma] s = .next t ∧ t.a = s.a ∧ t.flags = s.flags)

/-- JMP a16 is 0xC3 lo hi: PC takes a16, 10 cycles. PCHL is 0xE9: PC takes HL, 5 cycles. Each runs from every state
and changes nothing else. The cycle figures and bit patterns are the spec's general knowledge (log entry 11).
(R200, R206) -/
def Obligations.JumpsUnconditional : Prop :=
  ∀ s : State,
    (∀ a16 : Addr, EncodedAs (.jmp a16) [0xC3, loByte a16, hiByte a16] ∧
      exec (.jmp a16) s = .next { done 3 10 s with pc := a16 }) ∧
    EncodedAs .pchl [0xE9] ∧ exec .pchl s = .next { done 1 5 s with pc := word16 s.h s.l }

/-- For the eight conditions Jcc a16 is 11 ccc 010 lo hi: PC takes a16 if the condition of R81 holds and goes past the
instruction otherwise; nothing else changes, and it runs from every state. That it costs 10 cycles either way is
decision D6, and the tests are decision D7. (42_control_transfer.md, 30_encoding.md, Field codes,
92_eei_decisions.md D6, 92_eei_decisions.md D7) -/
def Obligations.JumpConditional : Prop :=
  ∀ (cond : Cond) (a16 : Addr) (s : State),
    EncodedAs (.jcc cond a16) [byte (192 + 8 * condCode cond + 2), loByte a16, hiByte a16] ∧
    exec (.jcc cond a16) s = .next { done 3 10 s with pc := if condTrue cond s.flags then a16 else s.pc + 3 }

/-- CALL a16 is 0xCD lo hi: the address of the next instruction is pushed and PC takes a16 (17 cycles). Ccc a16 is 11
ccc 100 lo hi and does the same if its condition holds, and otherwise touches neither SP nor memory (11 cycles).
Each runs from every state. The cycle figures and bit patterns are the spec's general knowledge (log entry 11).
(R202, R203) -/
def Obligations.Calls : Prop :=
  (∀ (a16 : Addr) (s : State), EncodedAs (.call a16) [0xCD, loByte a16, hiByte a16] ∧
    exec (.call a16) s = .next { done 3 17 (pushed (s.pc + 3) s) with pc := a16 }) ∧
  (∀ (cond : Cond) (a16 : Addr) (s : State),
    EncodedAs (.ccc cond a16) [byte (192 + 8 * condCode cond + 4), loByte a16, hiByte a16] ∧
    exec (.ccc cond a16) s = .next (
      if condTrue cond s.flags then { done 3 17 (pushed (s.pc + 3) s) with pc := a16 } else done 3 11 s))

/-- RET is 0xC9: PC takes the word on the stack, low byte at SP, and SP rises by 2 (10 cycles). Rcc is 11 ccc 000 and
does the same if its condition holds (11 cycles), and otherwise leaves SP (5 cycles). The enable does not change.
Each runs from every state. The cycle figures and bit patterns are the spec's general knowledge (log entry 11).
(R204, R205) -/
def Obligations.Returns : Prop :=
  (∀ s : State, EncodedAs .ret [0xC9] ∧
    exec .ret s = .next { done 1 10 s with pc := stackTop s, sp := s.sp + 2 }) ∧
  (∀ (cond : Cond) (s : State), EncodedAs (.rcc cond) [byte (192 + 8 * condCode cond)] ∧
    exec (.rcc cond) s = .next (
      if condTrue cond s.flags then { done 1 11 s with pc := stackTop s, sp := s.sp + 2 } else done 1 5 s))

/-- RST n is 11 nnn 111 for n = 0 to 7: the address after the byte is pushed, PC takes 8n, 11 cycles, the enable is
kept, from every state. Injected, PC has not advanced, so the address of the next program instruction is pushed;
that clause is the effect of Inject in R278, with cost 11 by decision D26 and the enable cleared exactly if
INTA_CLEARS_IE by decision D12. The cycle figures and bit patterns are the spec's general knowledge (log entry
11). (42_control_transfer.md R208, 60_exceptions.md R278, 92_eei_decisions.md D12, 92_eei_decisions.md D26) -/
def Obligations.Restarts : Prop :=
  ∀ (n : Fin 8) (s : State),
    EncodedAs (.rst n) [byte (192 + 8 * n.val + 7)] ∧
    exec (.rst n) s = .next { done 1 11 (pushed (s.pc + 1) s) with pc := BitVec.ofNat 16 (8 * n.val) } ∧
    inject (byte (192 + 8 * n.val + 7)) s =
      { done 0 11 (pushed s.pc s) with
        pc := BitVec.ofNat 16 (8 * n.val)
        interruptsEnabled := if s.params.intaClearsIe then false else s.interruptsEnabled }

/-- NOP is 0x00 and EI is 0xFB; each runs from every state with PC + 1 and 4 cycles; EI sets interrupts_enabled, NOP
changes nothing else. The cycle figures and bit patterns are the spec's general knowledge (log entry 11). (R220,
R221) -/
def Obligations.NopAndEi : Prop :=
  ∀ s : State,
    EncodedAs .nop [0x00] ∧ exec .nop s = .next (done 1 4 s) ∧
    EncodedAs .ei [0xFB] ∧ exec .ei s = .next (done 1 4 { s with interruptsEnabled := true }) ∧
    (∀ t, exec .ei s = .next t → (injects t = true ↔ t.nextWakeup.toNat ≤ t.cycle.toNat))

/-- IN 3 gives A bits 15-offset to 8-offset of the word hi:lo, which is also (hi << offset) or (lo >> (8-offset))
truncated to a byte; IN 2 gives A zero. Each runs from every state with PC + 2 and 10 cycles and changes no
device. For hi=0xCD and lo=0xAB the eight offsets read as R246's table says. That the three forms agree is marked
derived in R246; PC + 2 and the cost are those of R230. The cycle figures and bit patterns are the spec's general
knowledge (log entry 11). (44_io_port_layer.md R246, 44_io_port_layer.md R249, 43_machine_control.md R230) -/
def Obligations.InShifterAndDip : Prop :=
  (∀ s : State,
    let hi := s.shifter.hi.toNat
    let lo := s.shifter.lo.toNat
    let k := s.shifter.offset.toNat
    exec (.inPort 3) s = .next (done 2 10 { s with a := byte ((256 * hi + lo) / 2 ^ (8 - k) % 256) }) ∧
    byte ((256 * hi + lo) / 2 ^ (8 - k) % 256) = byte (hi <<< k ||| lo >>> (8 - k)) ∧
    byte (hi <<< k ||| lo >>> (8 - k)) = byte (hi <<< k ||| (lo >>> (7 - k)) >>> 1) ∧
    exec (.inPort 2) s = .next (done 2 10 { s with a := 0 })) ∧
  (List.range 8).map (fun k => shifterRead { hi := 0xCD, lo := 0xAB, offset := BitVec.ofNat 3 k }) =
    [0xCD, 0x9B, 0x36, 0x6D, 0xDA, 0xB5, 0x6A, 0xD5]

/-- IN p8 is 0xDB p8. IN 1 gives A p1_right, p1_left, p1_fire, IN1_BIT3, p1_start, p2_start and NOT coin in bits 6 to
0, and 0 in bit 7 (decision D16, log entry 8), from every state, with PC + 2 and 10 cycles and nothing else
changed. (44_io_port_layer.md, Buttons and DIP switches, 43_machine_control.md, 92_eei_decisions.md D16) -/
def Obligations.InButtons : Prop :=
  (∀ p8 : Byte, EncodedAs (.inPort p8) [0xDB, p8]) ∧
  (∀ s : State, exec (.inPort 1) s = .next (done 2 10 { s with a := buttonsExpected s }))

/-- OUT p8 sends A: port 2 sets the shift amount to its low 3 bits, port 4 moves hi to lo and A to hi, ports 3 and 5
latch all 8 bits, ports 1 and 6 change nothing. Each runs from every state and changes nothing else but PC + 2, 10
cycles and icount. The encoding 0xD3 p8, PC + 2 and the cost are those of R231. The cycle figures and bit patterns
are the spec's general knowledge (log entry 11). (43_machine_control.md R231, 44_io_port_layer.md R242,
44_io_port_layer.md R243, 44_io_port_layer.md R244, 44_io_port_layer.md R247, 44_io_port_layer.md R248) -/
def Obligations.OutPorts : Prop :=
  (∀ p8 : Byte, EncodedAs (.outPort p8) [0xD3, p8]) ∧
  (∀ s : State,
    exec (.outPort 1) s = .next (done 2 10 s) ∧
    exec (.outPort 2) s = .next (done 2 10 { s with
      shifter := { s.shifter with offset := BitVec.ofNat 3 (s.a.toNat % 8) } }) ∧
    exec (.outPort 3) s = .next (done 2 10 { s with port3 := s.a }) ∧
    exec (.outPort 4) s = .next (done 2 10 { s with
      shifter := { s.shifter with lo := s.shifter.hi, hi := s.a } }) ∧
    exec (.outPort 5) s = .next (done 2 10 { s with port5 := s.a }) ∧
    exec (.outPort 6) s = .next (done 2 10 s))

/-- IN from a port outside 1 to 3 halts with UnknownInPort and OUT to a port outside 1 to 6 halts with UnknownOutPort,
each recording the port byte, icount and PC; nothing else changes, A included (decision D15).
(44_io_port_layer.md, Unknown ports, 60_exceptions.md, Exceptions: the halt, 92_eei_decisions.md D15) -/
def Obligations.UndefinedPortsHalt : Prop :=
  ∀ (p8 : Byte) (s : State),
    (p8.toNat < 1 ∨ 3 < p8.toNat →
      exec (.inPort p8) s = .next (haltedWith (.unknownInPort p8 s.icount s.pc) s)) ∧
    (p8.toNat < 1 ∨ 6 < p8.toNat →
      exec (.outPort p8) s = .next (haltedWith (.unknownOutPort p8 s.icount s.pc) s))

/-- For every instruction, when exec answers a next state, every 8-bit register outside its written set (the table of
R40) is unchanged, and SP is unchanged unless the table says it is written. (10_state.md, Access matrix) -/
def Obligations.RegisterFrame : Prop :=
  ∀ (i : Instr) (s t : State), exec i s = .next t →
    (∀ r, r ∉ writesRegs i → readReg r t = readReg r s) ∧ (writesSp i = false → t.sp = s.sp)

/-- For every instruction, when exec answers a next state, each of S, Z, P, CY and AC is unchanged unless the
instruction's row of the table of R25 writes it; only POP PSW can change AC. The rotate and DAD rows are decisions
D8 and D9. (10_state.md, Flags (8080_alu_flags), 92_eei_decisions.md D8, 92_eei_decisions.md D9) -/
def Obligations.FlagFrame : Prop :=
  ∀ (i : Instr) (s t : State), exec i s = .next t →
    (writesFlags i = .none → t.flags = s.flags) ∧
    (writesFlags i = .cyOnly → t.flags = { s.flags with cy := t.flags.cy }) ∧
    (writesFlags i = .szpOnly → t.flags.cy = s.flags.cy ∧ t.flags.ac = s.flags.ac) ∧
    (writesFlags i ≠ .all → t.flags.ac = s.flags.ac) ∧
    (writesFlags i = .all ↔ i = .popPsw)

/-- For every instruction, when exec answers a next state, every address that is no alias of an address the
instruction stores to (HL, a16, a16 and a16+1, BC or DE, SP and SP+1, or SP-1 and SP-2; none for a form that
stores nothing) reads as before, and memory keeps its canonical form. (20_memory.md, The read and write
primitives, 20_memory.md, Alignment, widths, atomicity and side effects) -/
def Obligations.MemoryFrame : Prop :=
  ∀ (i : Instr) (s t : State), s.mem.wf = true → exec i s = .next t →
    t.mem.wf = true ∧
    ∀ a : Addr, (∀ b ∈ storeAddrs i s, b &&& 0x3FFF ≠ a &&& 0x3FFF) → memRead a t = memRead a s

/-- For every instruction, when exec answers a next state: interrupts_enabled changes only by EI and DI, the shifter
only by OUT 2 and OUT 4, port3 only by OUT 3 and port5 only by OUT 5; next_wakeup, next_interrupt_op, the buttons
and the parameters never change. (10_state.md, Control state, 60_exceptions.md, The interrupt scheduler,
44_io_port_layer.md, The shifter) -/
def Obligations.ControlAndDeviceFrame : Prop :=
  ∀ (i : Instr) (s t : State), exec i s = .next t →
    t.nextWakeup = s.nextWakeup ∧ t.nextInterruptOp = s.nextInterruptOp ∧ t.buttons = s.buttons ∧ t.params = s.params ∧
    (i ≠ .ei → i ≠ .di → t.interruptsEnabled = s.interruptsEnabled) ∧
    (i ≠ .outPort 2 → i ≠ .outPort 4 → t.shifter = s.shifter) ∧
    (i ≠ .outPort 3 → t.port3 = s.port3) ∧ (i ≠ .outPort 5 → t.port5 = s.port5)

/-- From every state with canonical memory, PUSH rp then POP rp restores the pair and SP, and CALL then RET resumes
after the CALL with SP restored, across the wrap of SP and of the memory array too. (40_data_transfer.md, Stack,
42_control_transfer.md) -/
def Obligations.StackRoundTrips : Prop :=
  (∀ (p : PushPair) (s : State), s.mem.wf = true → ∃ t, runAll [.push p, .pop p] s = .next t ∧
    readPair (pushPairOf p) t = readPair (pushPairOf p) s ∧ t.sp = s.sp) ∧
  (∀ (a16 : Addr) (s : State), s.mem.wf = true → ∃ t, runAll [.call a16, .ret] s = .next t ∧
    t.pc = s.pc + 3 ∧ t.sp = s.sp)
end

