-- ==== Sys2Proof/Laws/Bits.lean ====
section
/-!
SUPPORT. A 16-bit value and its two bytes.
-/

namespace Sys2Proof.Machine

/-- A 16-bit value is put together again from its two bytes. -/
@[simp] theorem word16_hi_lo (v : Addr) : word16 (hiByte v) (loByte v) = v := by
  unfold word16 hiByte loByte
  rw [BitVec.extractLsb'_append_extractLsb'_eq_extractLsb' (by omega)]
  simp

@[simp] theorem hiByte_word16 (hi lo : Byte) : hiByte (word16 hi lo) = hi := by
  unfold word16 hiByte
  rw [BitVec.extractLsb'_append_eq_left]

@[simp] theorem loByte_word16 (hi lo : Byte) : loByte (word16 hi lo) = lo := by
  unfold word16 loByte
  rw [BitVec.extractLsb'_append_eq_right]

end Sys2Proof.Machine
end

