-- ==== Sys2Proof/Laws/Memory.lean ====
section
/-!
SUPPORT. The laws of the memory list: the canonical form is kept by every operation, a read after a write to the same cell
gives the value written, and a write leaves every other cell alone.
-/

namespace Sys2Proof.Machine

@[simp] theorem Memory.read_nil (a : Nat) : Memory.read [] a = Config.unlistedByte := rfl

theorem Memory.read_listed (k a : Nat) (v : Byte) (m : Memory) :
    Memory.read ((k, v) :: m) a = if k = a then v else Memory.read m a := rfl

theorem Memory.wfFrom_listed {lo k : Nat} {v : Byte} {m : Memory} :
    Memory.wfFrom lo ((k, v) :: m) = true ↔
      lo ≤ k ∧ k < Config.memSize ∧ v ≠ Config.unlistedByte ∧ Memory.wfFrom (k + 1) m = true := by
  simp [Memory.wfFrom, and_assoc]

/-- A list whose cells start higher is also one whose cells start lower. -/
theorem Memory.wfFrom_mono {lo hi : Nat} {m : Memory} (h : lo ≤ hi) (hm : Memory.wfFrom hi m = true) :
    Memory.wfFrom lo m = true := by
  cases m with
  | nil => rfl
  | cons x m =>
    rw [Memory.wfFrom_listed] at hm ⊢
    exact ⟨by omega, hm.2⟩

/-- A cell below every listed one is unlisted. -/
theorem Memory.read_below {lo a : Nat} {m : Memory} (hm : Memory.wfFrom lo m = true) (h : a < lo) :
    Memory.read m a = Config.unlistedByte := by
  induction m generalizing lo with
  | nil => rfl
  | cons x m ih =>
    obtain ⟨h1, -, -, h4⟩ := Memory.wfFrom_listed.mp hm
    rw [Memory.read_listed, if_neg (by omega), ih h4 (by omega)]

theorem Memory.read_cons {a b : Nat} {v : Byte} {m : Memory} (hm : Memory.wfFrom (a + 1) m = true) :
    Memory.read (Memory.cons a v m) b = if a = b then v else Memory.read m b := by
  unfold Memory.cons
  split
  · next hv =>
    split
    · next hab => rw [hv, ← hab, Memory.read_below hm (by omega)]
    · rfl
  · rfl

theorem Memory.wfFrom_cons {lo a : Nat} {v : Byte} {m : Memory} (hlo : lo ≤ a) (ha : a < Config.memSize)
    (hm : Memory.wfFrom (a + 1) m = true) : Memory.wfFrom lo (Memory.cons a v m) = true := by
  unfold Memory.cons
  split
  · exact Memory.wfFrom_mono (by omega) hm
  · exact Memory.wfFrom_listed.mpr ⟨hlo, ha, ‹_›, hm⟩

theorem Memory.wfFrom_write {lo a : Nat} {v : Byte} {m : Memory} (hlo : lo ≤ a) (ha : a < Config.memSize)
    (hm : Memory.wfFrom lo m = true) : Memory.wfFrom lo (Memory.write m a v) = true := by
  induction m generalizing lo with
  | nil => exact Memory.wfFrom_cons hlo ha rfl
  | cons x m ih =>
    obtain ⟨h1, h2, h3, h4⟩ := Memory.wfFrom_listed.mp hm
    simp only [Memory.write]
    split
    · exact Memory.wfFrom_cons hlo ha (Memory.wfFrom_listed.mpr ⟨by omega, h2, h3, h4⟩)
    · split
      · next hak => exact Memory.wfFrom_cons hlo ha (hak ▸ h4)
      · exact Memory.wfFrom_listed.mpr ⟨h1, h2, h3, ih (by omega) h4⟩

/-- A write keeps the canonical form. -/
theorem Memory.wf_write {a : Nat} {v : Byte} {m : Memory} (ha : a < Config.memSize) (hm : m.wf = true) :
    (m.write a v).wf = true := Memory.wfFrom_write (Nat.zero_le _) ha hm

theorem Memory.read_write_from {lo a b : Nat} {v : Byte} {m : Memory} (hm : Memory.wfFrom lo m = true) :
    Memory.read (Memory.write m a v) b = if a = b then v else Memory.read m b := by
  induction m generalizing lo with
  | nil => exact Memory.read_cons rfl
  | cons x m ih =>
    obtain ⟨h1, h2, h3, h4⟩ := Memory.wfFrom_listed.mp hm
    simp only [Memory.write]
    split
    · exact Memory.read_cons (Memory.wfFrom_listed.mpr ⟨by omega, h2, h3, h4⟩)
    · split
      · next hak =>
        subst hak
        rw [Memory.read_cons h4, Memory.read_listed]
        split <;> simp_all
      · rw [Memory.read_listed, Memory.read_listed, ih h4]
        split
        · next hkb => rw [if_neg (by omega)]
        · rfl

/-- What a cell reads as after a write. -/
theorem Memory.read_write {a b : Nat} {v : Byte} {m : Memory} (hm : m.wf = true) :
    (m.write a v).read b = if a = b then v else m.read b := Memory.read_write_from hm

theorem Memory.wfFrom_ofImage {a : Nat} {bytes : List Byte} (h : a + bytes.length ≤ Config.memSize) :
    Memory.wfFrom a (Memory.ofImage a bytes) = true := by
  induction bytes generalizing a with
  | nil => rfl
  | cons v vs ih =>
    simp only [List.length_cons] at h
    exact Memory.wfFrom_cons le_rfl (by omega) (ih (by omega))

/-- The memory of an image that fits is in canonical form. -/
theorem Memory.wf_ofImage {bytes : List Byte} (h : bytes.length ≤ Config.memSize) :
    (Memory.ofImage 0 bytes).wf = true := Memory.wfFrom_ofImage (by omega)

end Sys2Proof.Machine
end

