-- ==== Sys2Proof/Laws/State.lean ====
section
/-!
SUPPORT. One lemma per field of State for each operation that updates it, so that no later proof unfolds a record update.
-/

namespace Sys2Proof.Machine

/-! `advance` -/

@[simp] theorem advance_a (n : Nat) (s : State) : (advance n s).a = s.a := rfl
@[simp] theorem advance_b (n : Nat) (s : State) : (advance n s).b = s.b := rfl
@[simp] theorem advance_c (n : Nat) (s : State) : (advance n s).c = s.c := rfl
@[simp] theorem advance_d (n : Nat) (s : State) : (advance n s).d = s.d := rfl
@[simp] theorem advance_e (n : Nat) (s : State) : (advance n s).e = s.e := rfl
@[simp] theorem advance_h (n : Nat) (s : State) : (advance n s).h = s.h := rfl
@[simp] theorem advance_l (n : Nat) (s : State) : (advance n s).l = s.l := rfl
@[simp] theorem advance_sp (n : Nat) (s : State) : (advance n s).sp = s.sp := rfl
@[simp] theorem advance_pc (n : Nat) (s : State) : (advance n s).pc = s.pc + BitVec.ofNat 16 n := rfl
@[simp] theorem advance_flags (n : Nat) (s : State) : (advance n s).flags = s.flags := rfl
@[simp] theorem advance_interruptsEnabled (n : Nat) (s : State) : (advance n s).interruptsEnabled = s.interruptsEnabled := rfl
@[simp] theorem advance_nextWakeup (n : Nat) (s : State) : (advance n s).nextWakeup = s.nextWakeup := rfl
@[simp] theorem advance_nextInterruptOp (n : Nat) (s : State) : (advance n s).nextInterruptOp = s.nextInterruptOp := rfl
@[simp] theorem advance_shifter (n : Nat) (s : State) : (advance n s).shifter = s.shifter := rfl
@[simp] theorem advance_buttons (n : Nat) (s : State) : (advance n s).buttons = s.buttons := rfl
@[simp] theorem advance_port3 (n : Nat) (s : State) : (advance n s).port3 = s.port3 := rfl
@[simp] theorem advance_port5 (n : Nat) (s : State) : (advance n s).port5 = s.port5 := rfl
@[simp] theorem advance_cycle (n : Nat) (s : State) : (advance n s).cycle = s.cycle := rfl
@[simp] theorem advance_icount (n : Nat) (s : State) : (advance n s).icount = s.icount := rfl
@[simp] theorem advance_halted (n : Nat) (s : State) : (advance n s).halted = s.halted := rfl
@[simp] theorem advance_mem (n : Nat) (s : State) : (advance n s).mem = s.mem := rfl
@[simp] theorem advance_params (n : Nat) (s : State) : (advance n s).params = s.params := rfl

/-! `jumpTo` -/

@[simp] theorem jumpTo_a (v : Addr) (s : State) : (jumpTo v s).a = s.a := rfl
@[simp] theorem jumpTo_b (v : Addr) (s : State) : (jumpTo v s).b = s.b := rfl
@[simp] theorem jumpTo_c (v : Addr) (s : State) : (jumpTo v s).c = s.c := rfl
@[simp] theorem jumpTo_d (v : Addr) (s : State) : (jumpTo v s).d = s.d := rfl
@[simp] theorem jumpTo_e (v : Addr) (s : State) : (jumpTo v s).e = s.e := rfl
@[simp] theorem jumpTo_h (v : Addr) (s : State) : (jumpTo v s).h = s.h := rfl
@[simp] theorem jumpTo_l (v : Addr) (s : State) : (jumpTo v s).l = s.l := rfl
@[simp] theorem jumpTo_sp (v : Addr) (s : State) : (jumpTo v s).sp = s.sp := rfl
@[simp] theorem jumpTo_pc (v : Addr) (s : State) : (jumpTo v s).pc = v := rfl
@[simp] theorem jumpTo_flags (v : Addr) (s : State) : (jumpTo v s).flags = s.flags := rfl
@[simp] theorem jumpTo_interruptsEnabled (v : Addr) (s : State) : (jumpTo v s).interruptsEnabled = s.interruptsEnabled := rfl
@[simp] theorem jumpTo_nextWakeup (v : Addr) (s : State) : (jumpTo v s).nextWakeup = s.nextWakeup := rfl
@[simp] theorem jumpTo_nextInterruptOp (v : Addr) (s : State) : (jumpTo v s).nextInterruptOp = s.nextInterruptOp := rfl
@[simp] theorem jumpTo_shifter (v : Addr) (s : State) : (jumpTo v s).shifter = s.shifter := rfl
@[simp] theorem jumpTo_buttons (v : Addr) (s : State) : (jumpTo v s).buttons = s.buttons := rfl
@[simp] theorem jumpTo_port3 (v : Addr) (s : State) : (jumpTo v s).port3 = s.port3 := rfl
@[simp] theorem jumpTo_port5 (v : Addr) (s : State) : (jumpTo v s).port5 = s.port5 := rfl
@[simp] theorem jumpTo_cycle (v : Addr) (s : State) : (jumpTo v s).cycle = s.cycle := rfl
@[simp] theorem jumpTo_icount (v : Addr) (s : State) : (jumpTo v s).icount = s.icount := rfl
@[simp] theorem jumpTo_halted (v : Addr) (s : State) : (jumpTo v s).halted = s.halted := rfl
@[simp] theorem jumpTo_mem (v : Addr) (s : State) : (jumpTo v s).mem = s.mem := rfl
@[simp] theorem jumpTo_params (v : Addr) (s : State) : (jumpTo v s).params = s.params := rfl

/-! `memWrite` -/

@[simp] theorem memWrite_a (p : Addr) (v : Byte) (s : State) : (memWrite p v s).a = s.a := rfl
@[simp] theorem memWrite_b (p : Addr) (v : Byte) (s : State) : (memWrite p v s).b = s.b := rfl
@[simp] theorem memWrite_c (p : Addr) (v : Byte) (s : State) : (memWrite p v s).c = s.c := rfl
@[simp] theorem memWrite_d (p : Addr) (v : Byte) (s : State) : (memWrite p v s).d = s.d := rfl
@[simp] theorem memWrite_e (p : Addr) (v : Byte) (s : State) : (memWrite p v s).e = s.e := rfl
@[simp] theorem memWrite_h (p : Addr) (v : Byte) (s : State) : (memWrite p v s).h = s.h := rfl
@[simp] theorem memWrite_l (p : Addr) (v : Byte) (s : State) : (memWrite p v s).l = s.l := rfl
@[simp] theorem memWrite_sp (p : Addr) (v : Byte) (s : State) : (memWrite p v s).sp = s.sp := rfl
@[simp] theorem memWrite_pc (p : Addr) (v : Byte) (s : State) : (memWrite p v s).pc = s.pc := rfl
@[simp] theorem memWrite_flags (p : Addr) (v : Byte) (s : State) : (memWrite p v s).flags = s.flags := rfl
@[simp] theorem memWrite_interruptsEnabled (p : Addr) (v : Byte) (s : State) : (memWrite p v s).interruptsEnabled = s.interruptsEnabled := rfl
@[simp] theorem memWrite_nextWakeup (p : Addr) (v : Byte) (s : State) : (memWrite p v s).nextWakeup = s.nextWakeup := rfl
@[simp] theorem memWrite_nextInterruptOp (p : Addr) (v : Byte) (s : State) : (memWrite p v s).nextInterruptOp = s.nextInterruptOp := rfl
@[simp] theorem memWrite_shifter (p : Addr) (v : Byte) (s : State) : (memWrite p v s).shifter = s.shifter := rfl
@[simp] theorem memWrite_buttons (p : Addr) (v : Byte) (s : State) : (memWrite p v s).buttons = s.buttons := rfl
@[simp] theorem memWrite_port3 (p : Addr) (v : Byte) (s : State) : (memWrite p v s).port3 = s.port3 := rfl
@[simp] theorem memWrite_port5 (p : Addr) (v : Byte) (s : State) : (memWrite p v s).port5 = s.port5 := rfl
@[simp] theorem memWrite_cycle (p : Addr) (v : Byte) (s : State) : (memWrite p v s).cycle = s.cycle := rfl
@[simp] theorem memWrite_icount (p : Addr) (v : Byte) (s : State) : (memWrite p v s).icount = s.icount := rfl
@[simp] theorem memWrite_halted (p : Addr) (v : Byte) (s : State) : (memWrite p v s).halted = s.halted := rfl
@[simp] theorem memWrite_mem (p : Addr) (v : Byte) (s : State) : (memWrite p v s).mem = s.mem.write (cellOf p) v := rfl
@[simp] theorem memWrite_params (p : Addr) (v : Byte) (s : State) : (memWrite p v s).params = s.params := rfl

/-! `memWrite16` -/

@[simp] theorem memWrite16_a (p v : Addr) (s : State) : (memWrite16 p v s).a = s.a := rfl
@[simp] theorem memWrite16_b (p v : Addr) (s : State) : (memWrite16 p v s).b = s.b := rfl
@[simp] theorem memWrite16_c (p v : Addr) (s : State) : (memWrite16 p v s).c = s.c := rfl
@[simp] theorem memWrite16_d (p v : Addr) (s : State) : (memWrite16 p v s).d = s.d := rfl
@[simp] theorem memWrite16_e (p v : Addr) (s : State) : (memWrite16 p v s).e = s.e := rfl
@[simp] theorem memWrite16_h (p v : Addr) (s : State) : (memWrite16 p v s).h = s.h := rfl
@[simp] theorem memWrite16_l (p v : Addr) (s : State) : (memWrite16 p v s).l = s.l := rfl
@[simp] theorem memWrite16_sp (p v : Addr) (s : State) : (memWrite16 p v s).sp = s.sp := rfl
@[simp] theorem memWrite16_pc (p v : Addr) (s : State) : (memWrite16 p v s).pc = s.pc := rfl
@[simp] theorem memWrite16_flags (p v : Addr) (s : State) : (memWrite16 p v s).flags = s.flags := rfl
@[simp] theorem memWrite16_interruptsEnabled (p v : Addr) (s : State) : (memWrite16 p v s).interruptsEnabled = s.interruptsEnabled := rfl
@[simp] theorem memWrite16_nextWakeup (p v : Addr) (s : State) : (memWrite16 p v s).nextWakeup = s.nextWakeup := rfl
@[simp] theorem memWrite16_nextInterruptOp (p v : Addr) (s : State) : (memWrite16 p v s).nextInterruptOp = s.nextInterruptOp := rfl
@[simp] theorem memWrite16_shifter (p v : Addr) (s : State) : (memWrite16 p v s).shifter = s.shifter := rfl
@[simp] theorem memWrite16_buttons (p v : Addr) (s : State) : (memWrite16 p v s).buttons = s.buttons := rfl
@[simp] theorem memWrite16_port3 (p v : Addr) (s : State) : (memWrite16 p v s).port3 = s.port3 := rfl
@[simp] theorem memWrite16_port5 (p v : Addr) (s : State) : (memWrite16 p v s).port5 = s.port5 := rfl
@[simp] theorem memWrite16_cycle (p v : Addr) (s : State) : (memWrite16 p v s).cycle = s.cycle := rfl
@[simp] theorem memWrite16_icount (p v : Addr) (s : State) : (memWrite16 p v s).icount = s.icount := rfl
@[simp] theorem memWrite16_halted (p v : Addr) (s : State) : (memWrite16 p v s).halted = s.halted := rfl
@[simp] theorem memWrite16_mem (p v : Addr) (s : State) : (memWrite16 p v s).mem = (s.mem.write (cellOf p) (loByte v)).write (cellOf (p + 1)) (hiByte v) := rfl
@[simp] theorem memWrite16_params (p v : Addr) (s : State) : (memWrite16 p v s).params = s.params := rfl

/-! `push16` -/

@[simp] theorem push16_a (v : Addr) (s : State) : (push16 v s).a = s.a := rfl
@[simp] theorem push16_b (v : Addr) (s : State) : (push16 v s).b = s.b := rfl
@[simp] theorem push16_c (v : Addr) (s : State) : (push16 v s).c = s.c := rfl
@[simp] theorem push16_d (v : Addr) (s : State) : (push16 v s).d = s.d := rfl
@[simp] theorem push16_e (v : Addr) (s : State) : (push16 v s).e = s.e := rfl
@[simp] theorem push16_h (v : Addr) (s : State) : (push16 v s).h = s.h := rfl
@[simp] theorem push16_l (v : Addr) (s : State) : (push16 v s).l = s.l := rfl
@[simp] theorem push16_sp (v : Addr) (s : State) : (push16 v s).sp = s.sp - 1 - 1 := rfl
@[simp] theorem push16_pc (v : Addr) (s : State) : (push16 v s).pc = s.pc := rfl
@[simp] theorem push16_flags (v : Addr) (s : State) : (push16 v s).flags = s.flags := rfl
@[simp] theorem push16_interruptsEnabled (v : Addr) (s : State) : (push16 v s).interruptsEnabled = s.interruptsEnabled := rfl
@[simp] theorem push16_nextWakeup (v : Addr) (s : State) : (push16 v s).nextWakeup = s.nextWakeup := rfl
@[simp] theorem push16_nextInterruptOp (v : Addr) (s : State) : (push16 v s).nextInterruptOp = s.nextInterruptOp := rfl
@[simp] theorem push16_shifter (v : Addr) (s : State) : (push16 v s).shifter = s.shifter := rfl
@[simp] theorem push16_buttons (v : Addr) (s : State) : (push16 v s).buttons = s.buttons := rfl
@[simp] theorem push16_port3 (v : Addr) (s : State) : (push16 v s).port3 = s.port3 := rfl
@[simp] theorem push16_port5 (v : Addr) (s : State) : (push16 v s).port5 = s.port5 := rfl
@[simp] theorem push16_cycle (v : Addr) (s : State) : (push16 v s).cycle = s.cycle := rfl
@[simp] theorem push16_icount (v : Addr) (s : State) : (push16 v s).icount = s.icount := rfl
@[simp] theorem push16_halted (v : Addr) (s : State) : (push16 v s).halted = s.halted := rfl
@[simp] theorem push16_mem (v : Addr) (s : State) : (push16 v s).mem = (s.mem.write (cellOf (s.sp - 1)) (hiByte v)).write (cellOf (s.sp - 1 - 1)) (loByte v) := rfl
@[simp] theorem push16_params (v : Addr) (s : State) : (push16 v s).params = s.params := rfl

/-! `pop16` -/

@[simp] theorem pop16_a (s : State) : ((pop16 s).2).a = s.a := rfl
@[simp] theorem pop16_b (s : State) : ((pop16 s).2).b = s.b := rfl
@[simp] theorem pop16_c (s : State) : ((pop16 s).2).c = s.c := rfl
@[simp] theorem pop16_d (s : State) : ((pop16 s).2).d = s.d := rfl
@[simp] theorem pop16_e (s : State) : ((pop16 s).2).e = s.e := rfl
@[simp] theorem pop16_h (s : State) : ((pop16 s).2).h = s.h := rfl
@[simp] theorem pop16_l (s : State) : ((pop16 s).2).l = s.l := rfl
@[simp] theorem pop16_sp (s : State) : ((pop16 s).2).sp = s.sp + 1 + 1 := rfl
@[simp] theorem pop16_pc (s : State) : ((pop16 s).2).pc = s.pc := rfl
@[simp] theorem pop16_flags (s : State) : ((pop16 s).2).flags = s.flags := rfl
@[simp] theorem pop16_interruptsEnabled (s : State) : ((pop16 s).2).interruptsEnabled = s.interruptsEnabled := rfl
@[simp] theorem pop16_nextWakeup (s : State) : ((pop16 s).2).nextWakeup = s.nextWakeup := rfl
@[simp] theorem pop16_nextInterruptOp (s : State) : ((pop16 s).2).nextInterruptOp = s.nextInterruptOp := rfl
@[simp] theorem pop16_shifter (s : State) : ((pop16 s).2).shifter = s.shifter := rfl
@[simp] theorem pop16_buttons (s : State) : ((pop16 s).2).buttons = s.buttons := rfl
@[simp] theorem pop16_port3 (s : State) : ((pop16 s).2).port3 = s.port3 := rfl
@[simp] theorem pop16_port5 (s : State) : ((pop16 s).2).port5 = s.port5 := rfl
@[simp] theorem pop16_cycle (s : State) : ((pop16 s).2).cycle = s.cycle := rfl
@[simp] theorem pop16_icount (s : State) : ((pop16 s).2).icount = s.icount := rfl
@[simp] theorem pop16_halted (s : State) : ((pop16 s).2).halted = s.halted := rfl
@[simp] theorem pop16_mem (s : State) : ((pop16 s).2).mem = s.mem := rfl
@[simp] theorem pop16_params (s : State) : ((pop16 s).2).params = s.params := rfl

/-! `writeReg` -/

@[simp] theorem writeReg_sp (r : Reg8) (v : Byte) (s : State) : (writeReg r v s).sp = s.sp := by cases r <;> rfl
@[simp] theorem writeReg_pc (r : Reg8) (v : Byte) (s : State) : (writeReg r v s).pc = s.pc := by cases r <;> rfl
@[simp] theorem writeReg_flags (r : Reg8) (v : Byte) (s : State) : (writeReg r v s).flags = s.flags := by cases r <;> rfl
@[simp] theorem writeReg_interruptsEnabled (r : Reg8) (v : Byte) (s : State) : (writeReg r v s).interruptsEnabled = s.interruptsEnabled := by cases r <;> rfl
@[simp] theorem writeReg_nextWakeup (r : Reg8) (v : Byte) (s : State) : (writeReg r v s).nextWakeup = s.nextWakeup := by cases r <;> rfl
@[simp] theorem writeReg_nextInterruptOp (r : Reg8) (v : Byte) (s : State) : (writeReg r v s).nextInterruptOp = s.nextInterruptOp := by cases r <;> rfl
@[simp] theorem writeReg_shifter (r : Reg8) (v : Byte) (s : State) : (writeReg r v s).shifter = s.shifter := by cases r <;> rfl
@[simp] theorem writeReg_buttons (r : Reg8) (v : Byte) (s : State) : (writeReg r v s).buttons = s.buttons := by cases r <;> rfl
@[simp] theorem writeReg_port3 (r : Reg8) (v : Byte) (s : State) : (writeReg r v s).port3 = s.port3 := by cases r <;> rfl
@[simp] theorem writeReg_port5 (r : Reg8) (v : Byte) (s : State) : (writeReg r v s).port5 = s.port5 := by cases r <;> rfl
@[simp] theorem writeReg_cycle (r : Reg8) (v : Byte) (s : State) : (writeReg r v s).cycle = s.cycle := by cases r <;> rfl
@[simp] theorem writeReg_icount (r : Reg8) (v : Byte) (s : State) : (writeReg r v s).icount = s.icount := by cases r <;> rfl
@[simp] theorem writeReg_halted (r : Reg8) (v : Byte) (s : State) : (writeReg r v s).halted = s.halted := by cases r <;> rfl
@[simp] theorem writeReg_mem (r : Reg8) (v : Byte) (s : State) : (writeReg r v s).mem = s.mem := by cases r <;> rfl
@[simp] theorem writeReg_params (r : Reg8) (v : Byte) (s : State) : (writeReg r v s).params = s.params := by cases r <;> rfl

/-! `writePair` -/

@[simp] theorem writePair_pc (p : RegPair) (v : Addr) (s : State) : (writePair p v s).pc = s.pc := by cases p <;> rfl
@[simp] theorem writePair_flags (p : RegPair) (v : Addr) (s : State) : (writePair p v s).flags = s.flags := by cases p <;> rfl
@[simp] theorem writePair_interruptsEnabled (p : RegPair) (v : Addr) (s : State) : (writePair p v s).interruptsEnabled = s.interruptsEnabled := by cases p <;> rfl
@[simp] theorem writePair_nextWakeup (p : RegPair) (v : Addr) (s : State) : (writePair p v s).nextWakeup = s.nextWakeup := by cases p <;> rfl
@[simp] theorem writePair_nextInterruptOp (p : RegPair) (v : Addr) (s : State) : (writePair p v s).nextInterruptOp = s.nextInterruptOp := by cases p <;> rfl
@[simp] theorem writePair_shifter (p : RegPair) (v : Addr) (s : State) : (writePair p v s).shifter = s.shifter := by cases p <;> rfl
@[simp] theorem writePair_buttons (p : RegPair) (v : Addr) (s : State) : (writePair p v s).buttons = s.buttons := by cases p <;> rfl
@[simp] theorem writePair_port3 (p : RegPair) (v : Addr) (s : State) : (writePair p v s).port3 = s.port3 := by cases p <;> rfl
@[simp] theorem writePair_port5 (p : RegPair) (v : Addr) (s : State) : (writePair p v s).port5 = s.port5 := by cases p <;> rfl
@[simp] theorem writePair_cycle (p : RegPair) (v : Addr) (s : State) : (writePair p v s).cycle = s.cycle := by cases p <;> rfl
@[simp] theorem writePair_icount (p : RegPair) (v : Addr) (s : State) : (writePair p v s).icount = s.icount := by cases p <;> rfl
@[simp] theorem writePair_halted (p : RegPair) (v : Addr) (s : State) : (writePair p v s).halted = s.halted := by cases p <;> rfl
@[simp] theorem writePair_mem (p : RegPair) (v : Addr) (s : State) : (writePair p v s).mem = s.mem := by cases p <;> rfl
@[simp] theorem writePair_params (p : RegPair) (v : Addr) (s : State) : (writePair p v s).params = s.params := by cases p <;> rfl

/-! `setSzp` -/

@[simp] theorem setSzp_a (r : Byte) (s : State) : (setSzp r s).a = s.a := rfl
@[simp] theorem setSzp_b (r : Byte) (s : State) : (setSzp r s).b = s.b := rfl
@[simp] theorem setSzp_c (r : Byte) (s : State) : (setSzp r s).c = s.c := rfl
@[simp] theorem setSzp_d (r : Byte) (s : State) : (setSzp r s).d = s.d := rfl
@[simp] theorem setSzp_e (r : Byte) (s : State) : (setSzp r s).e = s.e := rfl
@[simp] theorem setSzp_h (r : Byte) (s : State) : (setSzp r s).h = s.h := rfl
@[simp] theorem setSzp_l (r : Byte) (s : State) : (setSzp r s).l = s.l := rfl
@[simp] theorem setSzp_sp (r : Byte) (s : State) : (setSzp r s).sp = s.sp := rfl
@[simp] theorem setSzp_pc (r : Byte) (s : State) : (setSzp r s).pc = s.pc := rfl
@[simp] theorem setSzp_flags (r : Byte) (s : State) : (setSzp r s).flags = szp r s.flags := rfl
@[simp] theorem setSzp_interruptsEnabled (r : Byte) (s : State) : (setSzp r s).interruptsEnabled = s.interruptsEnabled := rfl
@[simp] theorem setSzp_nextWakeup (r : Byte) (s : State) : (setSzp r s).nextWakeup = s.nextWakeup := rfl
@[simp] theorem setSzp_nextInterruptOp (r : Byte) (s : State) : (setSzp r s).nextInterruptOp = s.nextInterruptOp := rfl
@[simp] theorem setSzp_shifter (r : Byte) (s : State) : (setSzp r s).shifter = s.shifter := rfl
@[simp] theorem setSzp_buttons (r : Byte) (s : State) : (setSzp r s).buttons = s.buttons := rfl
@[simp] theorem setSzp_port3 (r : Byte) (s : State) : (setSzp r s).port3 = s.port3 := rfl
@[simp] theorem setSzp_port5 (r : Byte) (s : State) : (setSzp r s).port5 = s.port5 := rfl
@[simp] theorem setSzp_cycle (r : Byte) (s : State) : (setSzp r s).cycle = s.cycle := rfl
@[simp] theorem setSzp_icount (r : Byte) (s : State) : (setSzp r s).icount = s.icount := rfl
@[simp] theorem setSzp_halted (r : Byte) (s : State) : (setSzp r s).halted = s.halted := rfl
@[simp] theorem setSzp_mem (r : Byte) (s : State) : (setSzp r s).mem = s.mem := rfl
@[simp] theorem setSzp_params (r : Byte) (s : State) : (setSzp r s).params = s.params := rfl

/-! `setCy` -/

@[simp] theorem setCy_a (v : Bool) (s : State) : (setCy v s).a = s.a := rfl
@[simp] theorem setCy_b (v : Bool) (s : State) : (setCy v s).b = s.b := rfl
@[simp] theorem setCy_c (v : Bool) (s : State) : (setCy v s).c = s.c := rfl
@[simp] theorem setCy_d (v : Bool) (s : State) : (setCy v s).d = s.d := rfl
@[simp] theorem setCy_e (v : Bool) (s : State) : (setCy v s).e = s.e := rfl
@[simp] theorem setCy_h (v : Bool) (s : State) : (setCy v s).h = s.h := rfl
@[simp] theorem setCy_l (v : Bool) (s : State) : (setCy v s).l = s.l := rfl
@[simp] theorem setCy_sp (v : Bool) (s : State) : (setCy v s).sp = s.sp := rfl
@[simp] theorem setCy_pc (v : Bool) (s : State) : (setCy v s).pc = s.pc := rfl
@[simp] theorem setCy_flags (v : Bool) (s : State) : (setCy v s).flags = { s.flags with cy := v } := rfl
@[simp] theorem setCy_interruptsEnabled (v : Bool) (s : State) : (setCy v s).interruptsEnabled = s.interruptsEnabled := rfl
@[simp] theorem setCy_nextWakeup (v : Bool) (s : State) : (setCy v s).nextWakeup = s.nextWakeup := rfl
@[simp] theorem setCy_nextInterruptOp (v : Bool) (s : State) : (setCy v s).nextInterruptOp = s.nextInterruptOp := rfl
@[simp] theorem setCy_shifter (v : Bool) (s : State) : (setCy v s).shifter = s.shifter := rfl
@[simp] theorem setCy_buttons (v : Bool) (s : State) : (setCy v s).buttons = s.buttons := rfl
@[simp] theorem setCy_port3 (v : Bool) (s : State) : (setCy v s).port3 = s.port3 := rfl
@[simp] theorem setCy_port5 (v : Bool) (s : State) : (setCy v s).port5 = s.port5 := rfl
@[simp] theorem setCy_cycle (v : Bool) (s : State) : (setCy v s).cycle = s.cycle := rfl
@[simp] theorem setCy_icount (v : Bool) (s : State) : (setCy v s).icount = s.icount := rfl
@[simp] theorem setCy_halted (v : Bool) (s : State) : (setCy v s).halted = s.halted := rfl
@[simp] theorem setCy_mem (v : Bool) (s : State) : (setCy v s).mem = s.mem := rfl
@[simp] theorem setCy_params (v : Bool) (s : State) : (setCy v s).params = s.params := rfl

/-! `applyAlu` -/

@[simp] theorem applyAlu_a (op : AluOp) (v : Byte) (s : State) : (applyAlu op v s).a = if op = .cmp then s.a else (aluResult op s.a v s.flags.cy).r := rfl
@[simp] theorem applyAlu_b (op : AluOp) (v : Byte) (s : State) : (applyAlu op v s).b = s.b := rfl
@[simp] theorem applyAlu_c (op : AluOp) (v : Byte) (s : State) : (applyAlu op v s).c = s.c := rfl
@[simp] theorem applyAlu_d (op : AluOp) (v : Byte) (s : State) : (applyAlu op v s).d = s.d := rfl
@[simp] theorem applyAlu_e (op : AluOp) (v : Byte) (s : State) : (applyAlu op v s).e = s.e := rfl
@[simp] theorem applyAlu_h (op : AluOp) (v : Byte) (s : State) : (applyAlu op v s).h = s.h := rfl
@[simp] theorem applyAlu_l (op : AluOp) (v : Byte) (s : State) : (applyAlu op v s).l = s.l := rfl
@[simp] theorem applyAlu_sp (op : AluOp) (v : Byte) (s : State) : (applyAlu op v s).sp = s.sp := rfl
@[simp] theorem applyAlu_pc (op : AluOp) (v : Byte) (s : State) : (applyAlu op v s).pc = s.pc := rfl
@[simp] theorem applyAlu_flags (op : AluOp) (v : Byte) (s : State) : (applyAlu op v s).flags = aluFlags (aluResult op s.a v s.flags.cy) s.flags := rfl
@[simp] theorem applyAlu_interruptsEnabled (op : AluOp) (v : Byte) (s : State) : (applyAlu op v s).interruptsEnabled = s.interruptsEnabled := rfl
@[simp] theorem applyAlu_nextWakeup (op : AluOp) (v : Byte) (s : State) : (applyAlu op v s).nextWakeup = s.nextWakeup := rfl
@[simp] theorem applyAlu_nextInterruptOp (op : AluOp) (v : Byte) (s : State) : (applyAlu op v s).nextInterruptOp = s.nextInterruptOp := rfl
@[simp] theorem applyAlu_shifter (op : AluOp) (v : Byte) (s : State) : (applyAlu op v s).shifter = s.shifter := rfl
@[simp] theorem applyAlu_buttons (op : AluOp) (v : Byte) (s : State) : (applyAlu op v s).buttons = s.buttons := rfl
@[simp] theorem applyAlu_port3 (op : AluOp) (v : Byte) (s : State) : (applyAlu op v s).port3 = s.port3 := rfl
@[simp] theorem applyAlu_port5 (op : AluOp) (v : Byte) (s : State) : (applyAlu op v s).port5 = s.port5 := rfl
@[simp] theorem applyAlu_cycle (op : AluOp) (v : Byte) (s : State) : (applyAlu op v s).cycle = s.cycle := rfl
@[simp] theorem applyAlu_icount (op : AluOp) (v : Byte) (s : State) : (applyAlu op v s).icount = s.icount := rfl
@[simp] theorem applyAlu_halted (op : AluOp) (v : Byte) (s : State) : (applyAlu op v s).halted = s.halted := rfl
@[simp] theorem applyAlu_mem (op : AluOp) (v : Byte) (s : State) : (applyAlu op v s).mem = s.mem := rfl
@[simp] theorem applyAlu_params (op : AluOp) (v : Byte) (s : State) : (applyAlu op v s).params = s.params := rfl

/-! `rearm` -/

@[simp] theorem rearm_a (s : State) : (rearm s).a = s.a := rfl
@[simp] theorem rearm_b (s : State) : (rearm s).b = s.b := rfl
@[simp] theorem rearm_c (s : State) : (rearm s).c = s.c := rfl
@[simp] theorem rearm_d (s : State) : (rearm s).d = s.d := rfl
@[simp] theorem rearm_e (s : State) : (rearm s).e = s.e := rfl
@[simp] theorem rearm_h (s : State) : (rearm s).h = s.h := rfl
@[simp] theorem rearm_l (s : State) : (rearm s).l = s.l := rfl
@[simp] theorem rearm_sp (s : State) : (rearm s).sp = s.sp := rfl
@[simp] theorem rearm_pc (s : State) : (rearm s).pc = s.pc := rfl
@[simp] theorem rearm_flags (s : State) : (rearm s).flags = s.flags := rfl
@[simp] theorem rearm_interruptsEnabled (s : State) : (rearm s).interruptsEnabled = s.interruptsEnabled := rfl
@[simp] theorem rearm_nextWakeup (s : State) : (rearm s).nextWakeup = BitVec.ofNat 64 Config.halfFrame + s.nextWakeup := rfl
@[simp] theorem rearm_nextInterruptOp (s : State) : (rearm s).nextInterruptOp = s.nextInterruptOp ^^^ 0x18#8 := rfl
@[simp] theorem rearm_shifter (s : State) : (rearm s).shifter = s.shifter := rfl
@[simp] theorem rearm_buttons (s : State) : (rearm s).buttons = s.buttons := rfl
@[simp] theorem rearm_port3 (s : State) : (rearm s).port3 = s.port3 := rfl
@[simp] theorem rearm_port5 (s : State) : (rearm s).port5 = s.port5 := rfl
@[simp] theorem rearm_cycle (s : State) : (rearm s).cycle = s.cycle := rfl
@[simp] theorem rearm_icount (s : State) : (rearm s).icount = s.icount := rfl
@[simp] theorem rearm_halted (s : State) : (rearm s).halted = s.halted := rfl
@[simp] theorem rearm_mem (s : State) : (rearm s).mem = s.mem := rfl
@[simp] theorem rearm_params (s : State) : (rearm s).params = s.params := rfl

/-! `returnToPopped` -/

@[simp] theorem returnToPopped_a (s : State) : (returnToPopped s).a = s.a := rfl
@[simp] theorem returnToPopped_b (s : State) : (returnToPopped s).b = s.b := rfl
@[simp] theorem returnToPopped_c (s : State) : (returnToPopped s).c = s.c := rfl
@[simp] theorem returnToPopped_d (s : State) : (returnToPopped s).d = s.d := rfl
@[simp] theorem returnToPopped_e (s : State) : (returnToPopped s).e = s.e := rfl
@[simp] theorem returnToPopped_h (s : State) : (returnToPopped s).h = s.h := rfl
@[simp] theorem returnToPopped_l (s : State) : (returnToPopped s).l = s.l := rfl
@[simp] theorem returnToPopped_sp (s : State) : (returnToPopped s).sp = s.sp + 1 + 1 := rfl
@[simp] theorem returnToPopped_pc (s : State) : (returnToPopped s).pc = memRead16 s.sp s := rfl
@[simp] theorem returnToPopped_flags (s : State) : (returnToPopped s).flags = s.flags := rfl
@[simp] theorem returnToPopped_interruptsEnabled (s : State) : (returnToPopped s).interruptsEnabled = s.interruptsEnabled := rfl
@[simp] theorem returnToPopped_nextWakeup (s : State) : (returnToPopped s).nextWakeup = s.nextWakeup := rfl
@[simp] theorem returnToPopped_nextInterruptOp (s : State) : (returnToPopped s).nextInterruptOp = s.nextInterruptOp := rfl
@[simp] theorem returnToPopped_shifter (s : State) : (returnToPopped s).shifter = s.shifter := rfl
@[simp] theorem returnToPopped_buttons (s : State) : (returnToPopped s).buttons = s.buttons := rfl
@[simp] theorem returnToPopped_port3 (s : State) : (returnToPopped s).port3 = s.port3 := rfl
@[simp] theorem returnToPopped_port5 (s : State) : (returnToPopped s).port5 = s.port5 := rfl
@[simp] theorem returnToPopped_cycle (s : State) : (returnToPopped s).cycle = s.cycle := rfl
@[simp] theorem returnToPopped_icount (s : State) : (returnToPopped s).icount = s.icount := rfl
@[simp] theorem returnToPopped_halted (s : State) : (returnToPopped s).halted = s.halted := rfl
@[simp] theorem returnToPopped_mem (s : State) : (returnToPopped s).mem = s.mem := rfl
@[simp] theorem returnToPopped_params (s : State) : (returnToPopped s).params = s.params := rfl

/-! `inject` -/

@[simp] theorem inject_a (op : Byte) (s : State) : (inject op s).a = s.a := rfl
@[simp] theorem inject_b (op : Byte) (s : State) : (inject op s).b = s.b := rfl
@[simp] theorem inject_c (op : Byte) (s : State) : (inject op s).c = s.c := rfl
@[simp] theorem inject_d (op : Byte) (s : State) : (inject op s).d = s.d := rfl
@[simp] theorem inject_e (op : Byte) (s : State) : (inject op s).e = s.e := rfl
@[simp] theorem inject_h (op : Byte) (s : State) : (inject op s).h = s.h := rfl
@[simp] theorem inject_l (op : Byte) (s : State) : (inject op s).l = s.l := rfl
@[simp] theorem inject_sp (op : Byte) (s : State) : (inject op s).sp = s.sp - 1 - 1 := rfl
@[simp] theorem inject_pc (op : Byte) (s : State) : (inject op s).pc = restartVector (op.extractLsb' 3 3).toNat := rfl
@[simp] theorem inject_flags (op : Byte) (s : State) : (inject op s).flags = s.flags := rfl
@[simp] theorem inject_interruptsEnabled (op : Byte) (s : State) : (inject op s).interruptsEnabled = (s.interruptsEnabled && !s.params.intaClearsIe) := rfl
@[simp] theorem inject_nextWakeup (op : Byte) (s : State) : (inject op s).nextWakeup = s.nextWakeup := rfl
@[simp] theorem inject_nextInterruptOp (op : Byte) (s : State) : (inject op s).nextInterruptOp = s.nextInterruptOp := rfl
@[simp] theorem inject_shifter (op : Byte) (s : State) : (inject op s).shifter = s.shifter := rfl
@[simp] theorem inject_buttons (op : Byte) (s : State) : (inject op s).buttons = s.buttons := rfl
@[simp] theorem inject_port3 (op : Byte) (s : State) : (inject op s).port3 = s.port3 := rfl
@[simp] theorem inject_port5 (op : Byte) (s : State) : (inject op s).port5 = s.port5 := rfl
@[simp] theorem inject_cycle (op : Byte) (s : State) : (inject op s).cycle = s.cycle + BitVec.ofNat 64 11 := rfl
@[simp] theorem inject_icount (op : Byte) (s : State) : (inject op s).icount = s.icount + 1 := rfl
@[simp] theorem inject_halted (op : Byte) (s : State) : (inject op s).halted = s.halted := rfl
@[simp] theorem inject_mem (op : Byte) (s : State) : (inject op s).mem = (push16 s.pc s).mem := rfl
@[simp] theorem inject_params (op : Byte) (s : State) : (inject op s).params = s.params := rfl

/-! `setShiftAmount` -/

@[simp] theorem setShiftAmount_a (v : Byte) (s : State) : (setShiftAmount v s).a = s.a := rfl
@[simp] theorem setShiftAmount_b (v : Byte) (s : State) : (setShiftAmount v s).b = s.b := rfl
@[simp] theorem setShiftAmount_c (v : Byte) (s : State) : (setShiftAmount v s).c = s.c := rfl
@[simp] theorem setShiftAmount_d (v : Byte) (s : State) : (setShiftAmount v s).d = s.d := rfl
@[simp] theorem setShiftAmount_e (v : Byte) (s : State) : (setShiftAmount v s).e = s.e := rfl
@[simp] theorem setShiftAmount_h (v : Byte) (s : State) : (setShiftAmount v s).h = s.h := rfl
@[simp] theorem setShiftAmount_l (v : Byte) (s : State) : (setShiftAmount v s).l = s.l := rfl
@[simp] theorem setShiftAmount_sp (v : Byte) (s : State) : (setShiftAmount v s).sp = s.sp := rfl
@[simp] theorem setShiftAmount_pc (v : Byte) (s : State) : (setShiftAmount v s).pc = s.pc := rfl
@[simp] theorem setShiftAmount_flags (v : Byte) (s : State) : (setShiftAmount v s).flags = s.flags := rfl
@[simp] theorem setShiftAmount_interruptsEnabled (v : Byte) (s : State) : (setShiftAmount v s).interruptsEnabled = s.interruptsEnabled := rfl
@[simp] theorem setShiftAmount_nextWakeup (v : Byte) (s : State) : (setShiftAmount v s).nextWakeup = s.nextWakeup := rfl
@[simp] theorem setShiftAmount_nextInterruptOp (v : Byte) (s : State) : (setShiftAmount v s).nextInterruptOp = s.nextInterruptOp := rfl
@[simp] theorem setShiftAmount_shifter (v : Byte) (s : State) : (setShiftAmount v s).shifter = { s.shifter with offset := v.extractLsb' 0 3 } := rfl
@[simp] theorem setShiftAmount_buttons (v : Byte) (s : State) : (setShiftAmount v s).buttons = s.buttons := rfl
@[simp] theorem setShiftAmount_port3 (v : Byte) (s : State) : (setShiftAmount v s).port3 = s.port3 := rfl
@[simp] theorem setShiftAmount_port5 (v : Byte) (s : State) : (setShiftAmount v s).port5 = s.port5 := rfl
@[simp] theorem setShiftAmount_cycle (v : Byte) (s : State) : (setShiftAmount v s).cycle = s.cycle := rfl
@[simp] theorem setShiftAmount_icount (v : Byte) (s : State) : (setShiftAmount v s).icount = s.icount := rfl
@[simp] theorem setShiftAmount_halted (v : Byte) (s : State) : (setShiftAmount v s).halted = s.halted := rfl
@[simp] theorem setShiftAmount_mem (v : Byte) (s : State) : (setShiftAmount v s).mem = s.mem := rfl
@[simp] theorem setShiftAmount_params (v : Byte) (s : State) : (setShiftAmount v s).params = s.params := rfl

/-! `feedShifter` -/

@[simp] theorem feedShifter_a (v : Byte) (s : State) : (feedShifter v s).a = s.a := rfl
@[simp] theorem feedShifter_b (v : Byte) (s : State) : (feedShifter v s).b = s.b := rfl
@[simp] theorem feedShifter_c (v : Byte) (s : State) : (feedShifter v s).c = s.c := rfl
@[simp] theorem feedShifter_d (v : Byte) (s : State) : (feedShifter v s).d = s.d := rfl
@[simp] theorem feedShifter_e (v : Byte) (s : State) : (feedShifter v s).e = s.e := rfl
@[simp] theorem feedShifter_h (v : Byte) (s : State) : (feedShifter v s).h = s.h := rfl
@[simp] theorem feedShifter_l (v : Byte) (s : State) : (feedShifter v s).l = s.l := rfl
@[simp] theorem feedShifter_sp (v : Byte) (s : State) : (feedShifter v s).sp = s.sp := rfl
@[simp] theorem feedShifter_pc (v : Byte) (s : State) : (feedShifter v s).pc = s.pc := rfl
@[simp] theorem feedShifter_flags (v : Byte) (s : State) : (feedShifter v s).flags = s.flags := rfl
@[simp] theorem feedShifter_interruptsEnabled (v : Byte) (s : State) : (feedShifter v s).interruptsEnabled = s.interruptsEnabled := rfl
@[simp] theorem feedShifter_nextWakeup (v : Byte) (s : State) : (feedShifter v s).nextWakeup = s.nextWakeup := rfl
@[simp] theorem feedShifter_nextInterruptOp (v : Byte) (s : State) : (feedShifter v s).nextInterruptOp = s.nextInterruptOp := rfl
@[simp] theorem feedShifter_shifter (v : Byte) (s : State) : (feedShifter v s).shifter = { s.shifter with lo := s.shifter.hi, hi := v } := rfl
@[simp] theorem feedShifter_buttons (v : Byte) (s : State) : (feedShifter v s).buttons = s.buttons := rfl
@[simp] theorem feedShifter_port3 (v : Byte) (s : State) : (feedShifter v s).port3 = s.port3 := rfl
@[simp] theorem feedShifter_port5 (v : Byte) (s : State) : (feedShifter v s).port5 = s.port5 := rfl
@[simp] theorem feedShifter_cycle (v : Byte) (s : State) : (feedShifter v s).cycle = s.cycle := rfl
@[simp] theorem feedShifter_icount (v : Byte) (s : State) : (feedShifter v s).icount = s.icount := rfl
@[simp] theorem feedShifter_halted (v : Byte) (s : State) : (feedShifter v s).halted = s.halted := rfl
@[simp] theorem feedShifter_mem (v : Byte) (s : State) : (feedShifter v s).mem = s.mem := rfl
@[simp] theorem feedShifter_params (v : Byte) (s : State) : (feedShifter v s).params = s.params := rfl

/-! `setButtons` -/

@[simp] theorem setButtons_a (v : Buttons) (s : State) : (setButtons v s).a = s.a := rfl
@[simp] theorem setButtons_b (v : Buttons) (s : State) : (setButtons v s).b = s.b := rfl
@[simp] theorem setButtons_c (v : Buttons) (s : State) : (setButtons v s).c = s.c := rfl
@[simp] theorem setButtons_d (v : Buttons) (s : State) : (setButtons v s).d = s.d := rfl
@[simp] theorem setButtons_e (v : Buttons) (s : State) : (setButtons v s).e = s.e := rfl
@[simp] theorem setButtons_h (v : Buttons) (s : State) : (setButtons v s).h = s.h := rfl
@[simp] theorem setButtons_l (v : Buttons) (s : State) : (setButtons v s).l = s.l := rfl
@[simp] theorem setButtons_sp (v : Buttons) (s : State) : (setButtons v s).sp = s.sp := rfl
@[simp] theorem setButtons_pc (v : Buttons) (s : State) : (setButtons v s).pc = s.pc := rfl
@[simp] theorem setButtons_flags (v : Buttons) (s : State) : (setButtons v s).flags = s.flags := rfl
@[simp] theorem setButtons_interruptsEnabled (v : Buttons) (s : State) : (setButtons v s).interruptsEnabled = s.interruptsEnabled := rfl
@[simp] theorem setButtons_nextWakeup (v : Buttons) (s : State) : (setButtons v s).nextWakeup = s.nextWakeup := rfl
@[simp] theorem setButtons_nextInterruptOp (v : Buttons) (s : State) : (setButtons v s).nextInterruptOp = s.nextInterruptOp := rfl
@[simp] theorem setButtons_shifter (v : Buttons) (s : State) : (setButtons v s).shifter = s.shifter := rfl
@[simp] theorem setButtons_buttons (v : Buttons) (s : State) : (setButtons v s).buttons = v := rfl
@[simp] theorem setButtons_port3 (v : Buttons) (s : State) : (setButtons v s).port3 = s.port3 := rfl
@[simp] theorem setButtons_port5 (v : Buttons) (s : State) : (setButtons v s).port5 = s.port5 := rfl
@[simp] theorem setButtons_cycle (v : Buttons) (s : State) : (setButtons v s).cycle = s.cycle := rfl
@[simp] theorem setButtons_icount (v : Buttons) (s : State) : (setButtons v s).icount = s.icount := rfl
@[simp] theorem setButtons_halted (v : Buttons) (s : State) : (setButtons v s).halted = s.halted := rfl
@[simp] theorem setButtons_mem (v : Buttons) (s : State) : (setButtons v s).mem = s.mem := rfl
@[simp] theorem setButtons_params (v : Buttons) (s : State) : (setButtons v s).params = s.params := rfl

/-- A register reads back what was written to it, and the others keep their values. -/
theorem readReg_writeReg (r q : Reg8) (v : Byte) (s : State) :
    readReg q (writeReg r v s) = if q = r then v else readReg q s := by
  cases r <;> cases q <;> rfl

/-- A pair reads back what was written to it (R21). -/
theorem readPair_writePair_same (p : RegPair) (v : Addr) (s : State) :
    readPair p (writePair p v s) = v := by
  cases p <;> first | exact word16_hi_lo v | rfl

/-- A pair keeps its value when another is written. -/
theorem readPair_writePair_other {p q : RegPair} (h : q ≠ p) (v : Addr) (s : State) :
    readPair q (writePair p v s) = readPair q s := by
  cases p <;> cases q <;> first | rfl | exact absurd rfl h

/-- A register outside a pair keeps its value when the pair is written. -/
theorem readReg_writePair_other (p : RegPair) (q : Reg8) (v : Addr) (s : State)
    (h : match p with
      | .bc => q ≠ .b ∧ q ≠ .c
      | .de => q ≠ .d ∧ q ≠ .e
      | .hl => q ≠ .h ∧ q ≠ .l
      | .sp => True) :
    readReg q (writePair p v s) = readReg q s := by
  cases p <;> cases q <;> first | rfl | exact absurd rfl h.1 | exact absurd rfl h.2

end Sys2Proof.Machine
end

