-- ==== Sys2Proof/Laws/Ops.lean ====
section
/-!
SUPPORT. One spec lemma per shared operation: everything it can do.
-/

namespace Sys2Proof.Machine

theorem cellOf_lt (p : Addr) : cellOf p < Config.memSize := by
  have h : (p &&& Config.addrMask).toNat ≤ 0x3FFF := by
    rw [BitVec.toNat_and]
    exact Nat.and_le_right
  unfold cellOf Config.memSize
  omega

/-- A byte read depends on the memory alone. -/
theorem memRead_congr {s t : State} (h : s.mem = t.mem) (p : Addr) : memRead p s = memRead p t := by
  unfold memRead
  rw [h]

theorem memWrite_wf {s : State} (h : s.mem.wf = true) (p : Addr) (v : Byte) :
    (memWrite p v s).mem.wf = true := Memory.wf_write (cellOf_lt p) h

/-- What an address reads as after a byte is written: the byte, at every address of the same cell, and what it read before
elsewhere. -/
theorem memRead_memWrite {s : State} (h : s.mem.wf = true) (p q : Addr) (v : Byte) :
    memRead p (memWrite q v s) = if cellOf q = cellOf p then v else memRead p s :=
  Memory.read_write h

/-- Two addresses reach one cell exactly when their low 14 bits agree. -/
theorem cellOf_eq_iff {p q : Addr} :
    cellOf p = cellOf q ↔ p &&& Config.addrMask = q &&& Config.addrMask :=
  BitVec.toNat_inj

/-- What a push changes: the two bytes and SP. -/
theorem push16_eq (v : Addr) (s : State) :
    push16 v s =
      { memWrite (s.sp - 1 - 1) (loByte v) (memWrite (s.sp - 1) (hiByte v) s) with sp := s.sp - 1 - 1 } := rfl

theorem memWrite16_wf {s : State} (h : s.mem.wf = true) (p v : Addr) :
    (memWrite16 p v s).mem.wf = true := memWrite_wf (memWrite_wf h p _) _ _

theorem push16_wf {s : State} (h : s.mem.wf = true) (v : Addr) : (push16 v s).mem.wf = true :=
  Memory.wf_write (cellOf_lt _) (Memory.wf_write (cellOf_lt _) h)

theorem inject_wf {s : State} (h : s.mem.wf = true) (op : Byte) : (inject op s).mem.wf = true :=
  push16_wf h _

theorem placeBytes_wf {s : State} (h : s.mem.wf = true) (p : Addr) (bytes : List Byte) :
    (placeBytes p bytes s).mem.wf = true := by
  induction bytes generalizing p s with
  | nil => exact h
  | cons v vs ih => exact ih (memWrite_wf h p v) _

/-- `Pop16` answers the two bytes at SP and moves SP. -/
theorem pop16_eq (s : State) : pop16 s = (memRead16 s.sp s, { s with sp := s.sp + 1 + 1 }) := rfl

/-- Retirement always answers a next state. -/
theorem retire_next {cost : Nat} {s t : State} :
    retire cost s = .next t ↔
      t = { s with cycle := s.cycle + BitVec.ofNat 64 cost, icount := s.icount + 1 } := by
  simp [retire, eq_comm]

/-- A halt always answers a next state, which differs from the one it is raised on in `halted` alone. -/
theorem raiseHalt_next {reason : HaltReason} {s t : State} :
    raiseHalt reason s = .next t ↔ t = { s with halted := some reason } := by
  simp [raiseHalt, eq_comm]

/-- An unlisted opcode runs if it is admitted, and halts otherwise. -/
theorem ifUnlistedAdmitted_cases (op : Byte) (s : State) (admitted : Out) :
    (s.params.admitUnlisted = true ∧ ifUnlistedAdmitted op s admitted = admitted) ∨
    (s.params.admitUnlisted = false ∧
      ifUnlistedAdmitted op s admitted = raiseHalt (.unknownOpcode op s.icount s.pc) s) := by
  cases h : s.params.admitUnlisted <;> simp [ifUnlistedAdmitted, haltUnknownOpcode, h]

/-- IN answers a next state: A is written from a defined port, and the machine halts on another. -/
theorem inputPort_cases (p : Byte) (s : State) :
    (∃ v, portIn p s = some v ∧ inputPort p s = retire 10 (writeReg .a v (advance 2 s))) ∨
    (portIn p s = none ∧ inputPort p s = raiseHalt (.unknownInPort p s.icount s.pc) s) := by
  cases h : portIn p s <;> simp [inputPort, h]

/-- What OUT can do to the state: nothing, or one device field. -/
theorem portOut_cases {p v : Byte} {s t : State} (h : portOut p v s = some t) :
    t = s ∨ t = setShiftAmount v s ∨ t = feedShifter v s ∨ t = { s with port3 := v } ∨
      t = { s with port5 := v } := by
  unfold portOut at h
  split_ifs at h <;> simp_all

/-- The scheduler phase leaves the state alone, drops a due event, or delivers it (R277). -/
theorem schedulerPhase_cases (s : State) :
    (interruptDue s = false ∧ schedulerPhase s = s) ∨
    (interruptDue s = true ∧ s.interruptsEnabled = false ∧ schedulerPhase s = rearm s) ∨
    (interruptDue s = true ∧ s.interruptsEnabled = true ∧
      schedulerPhase s = rearm (inject s.nextInterruptOp s)) := by
  unfold schedulerPhase
  cases interruptDue s <;> cases s.interruptsEnabled <;> simp

/-- A step answers what the decoded instruction's meaning answers after the scheduler phase, unless the state has halted. -/
theorem step_of_running {s : State} (h : s.halted = none) :
    step s = exec (fetchInstr (schedulerPhase s)) (schedulerPhase s) := by
  simp [step, enginePhase, h]

/-- A step that answers a next state started from a state that had not halted. -/
theorem step_next {s t : State} (h : step s = .next t) :
    s.halted = none ∧ exec (fetchInstr (schedulerPhase s)) (schedulerPhase s) = .next t := by
  cases hs : s.halted with
  | none => exact ⟨rfl, step_of_running hs ▸ h⟩
  | some r => simp [step, hs] at h

end Sys2Proof.Machine
end

