-- ==== Sys2Proof/Laws/PerInstr.lean ====
section
/-!
SUPPORT. One lemma per constructor of `Instr` for each family named in LAWS.json.
-/

namespace Sys2Proof.Laws

/-- The family `LengthAndOpcode`: an instruction's bytes are as many as R83 gives its opcode, and the opcode map of R80
reads the opcode byte (built from bit fields) back as the instruction, whatever the operand bytes. -/
def LengthAndOpcode.Statement (i : Instr) : Prop :=
  (encode i).length = opcodeLength (opcode i) ∧
  decodeBytes (opcode i) ((operandBytes i).getD 0 0) ((operandBytes i).getD 1 0) = i

/-- The family's statement from the opcode byte written out as a number of the table. -/
theorem LengthAndOpcode.intro {i : Instr} (op : Byte) (hop : opcode i = op)
    (hlen : (operandBytes i).length + 1 = opcodeLength op)
    (hdec : decodeBytes op ((operandBytes i).getD 0 0) ((operandBytes i).getD 1 0) = i) :
    LengthAndOpcode.Statement i := by
  subst hop
  exact ⟨hlen, hdec⟩

theorem LengthAndOpcode.nop : LengthAndOpcode.Statement .nop 
    := LengthAndOpcode.intro 0x00 rfl rfl rfl
theorem LengthAndOpcode.lxiB (v : Addr) : LengthAndOpcode.Statement (.lxiB v) 
    := LengthAndOpcode.intro 0x01 rfl rfl (congrArg Instr.lxiB (Machine.word16_hi_lo v))
theorem LengthAndOpcode.staxB : LengthAndOpcode.Statement .staxB 
    := LengthAndOpcode.intro 0x02 rfl rfl rfl
theorem LengthAndOpcode.inxB : LengthAndOpcode.Statement .inxB 
    := LengthAndOpcode.intro 0x03 rfl rfl rfl
theorem LengthAndOpcode.inrB : LengthAndOpcode.Statement .inrB 
    := LengthAndOpcode.intro 0x04 rfl rfl rfl
theorem LengthAndOpcode.dcrB : LengthAndOpcode.Statement .dcrB 
    := LengthAndOpcode.intro 0x05 rfl rfl rfl
theorem LengthAndOpcode.mviB (v : Byte) : LengthAndOpcode.Statement (.mviB v) 
    := LengthAndOpcode.intro 0x06 rfl rfl rfl
theorem LengthAndOpcode.rlc : LengthAndOpcode.Statement .rlc 
    := LengthAndOpcode.intro 0x07 rfl rfl rfl
theorem LengthAndOpcode.undocumented08 : LengthAndOpcode.Statement .undocumented08 
    := LengthAndOpcode.intro 0x08 rfl rfl rfl
theorem LengthAndOpcode.dadB : LengthAndOpcode.Statement .dadB 
    := LengthAndOpcode.intro 0x09 rfl rfl rfl
theorem LengthAndOpcode.ldaxB : LengthAndOpcode.Statement .ldaxB 
    := LengthAndOpcode.intro 0x0A rfl rfl rfl
theorem LengthAndOpcode.dcxB : LengthAndOpcode.Statement .dcxB 
    := LengthAndOpcode.intro 0x0B rfl rfl rfl
theorem LengthAndOpcode.inrC : LengthAndOpcode.Statement .inrC 
    := LengthAndOpcode.intro 0x0C rfl rfl rfl
theorem LengthAndOpcode.dcrC : LengthAndOpcode.Statement .dcrC 
    := LengthAndOpcode.intro 0x0D rfl rfl rfl
theorem LengthAndOpcode.mviC (v : Byte) : LengthAndOpcode.Statement (.mviC v) 
    := LengthAndOpcode.intro 0x0E rfl rfl rfl
theorem LengthAndOpcode.rrc : LengthAndOpcode.Statement .rrc 
    := LengthAndOpcode.intro 0x0F rfl rfl rfl
theorem LengthAndOpcode.undocumented10 : LengthAndOpcode.Statement .undocumented10 
    := LengthAndOpcode.intro 0x10 rfl rfl rfl
theorem LengthAndOpcode.lxiD (v : Addr) : LengthAndOpcode.Statement (.lxiD v) 
    := LengthAndOpcode.intro 0x11 rfl rfl (congrArg Instr.lxiD (Machine.word16_hi_lo v))
theorem LengthAndOpcode.staxD : LengthAndOpcode.Statement .staxD 
    := LengthAndOpcode.intro 0x12 rfl rfl rfl
theorem LengthAndOpcode.inxD : LengthAndOpcode.Statement .inxD 
    := LengthAndOpcode.intro 0x13 rfl rfl rfl
theorem LengthAndOpcode.inrD : LengthAndOpcode.Statement .inrD 
    := LengthAndOpcode.intro 0x14 rfl rfl rfl
theorem LengthAndOpcode.dcrD : LengthAndOpcode.Statement .dcrD 
    := LengthAndOpcode.intro 0x15 rfl rfl rfl
theorem LengthAndOpcode.mviD (v : Byte) : LengthAndOpcode.Statement (.mviD v) 
    := LengthAndOpcode.intro 0x16 rfl rfl rfl
theorem LengthAndOpcode.ral : LengthAndOpcode.Statement .ral 
    := LengthAndOpcode.intro 0x17 rfl rfl rfl
theorem LengthAndOpcode.undocumented18 : LengthAndOpcode.Statement .undocumented18 
    := LengthAndOpcode.intro 0x18 rfl rfl rfl
theorem LengthAndOpcode.dadD : LengthAndOpcode.Statement .dadD 
    := LengthAndOpcode.intro 0x19 rfl rfl rfl
theorem LengthAndOpcode.ldaxD : LengthAndOpcode.Statement .ldaxD 
    := LengthAndOpcode.intro 0x1A rfl rfl rfl
theorem LengthAndOpcode.dcxD : LengthAndOpcode.Statement .dcxD 
    := LengthAndOpcode.intro 0x1B rfl rfl rfl
theorem LengthAndOpcode.inrE : LengthAndOpcode.Statement .inrE 
    := LengthAndOpcode.intro 0x1C rfl rfl rfl
theorem LengthAndOpcode.dcrE : LengthAndOpcode.Statement .dcrE 
    := LengthAndOpcode.intro 0x1D rfl rfl rfl
theorem LengthAndOpcode.mviE (v : Byte) : LengthAndOpcode.Statement (.mviE v) 
    := LengthAndOpcode.intro 0x1E rfl rfl rfl
theorem LengthAndOpcode.rar : LengthAndOpcode.Statement .rar 
    := LengthAndOpcode.intro 0x1F rfl rfl rfl
theorem LengthAndOpcode.undocumented20 : LengthAndOpcode.Statement .undocumented20 
    := LengthAndOpcode.intro 0x20 rfl rfl rfl
theorem LengthAndOpcode.lxiH (v : Addr) : LengthAndOpcode.Statement (.lxiH v) 
    := LengthAndOpcode.intro 0x21 rfl rfl (congrArg Instr.lxiH (Machine.word16_hi_lo v))
theorem LengthAndOpcode.shld (v : Addr) : LengthAndOpcode.Statement (.shld v) 
    := LengthAndOpcode.intro 0x22 rfl rfl (congrArg Instr.shld (Machine.word16_hi_lo v))
theorem LengthAndOpcode.inxH : LengthAndOpcode.Statement .inxH 
    := LengthAndOpcode.intro 0x23 rfl rfl rfl
theorem LengthAndOpcode.inrH : LengthAndOpcode.Statement .inrH 
    := LengthAndOpcode.intro 0x24 rfl rfl rfl
theorem LengthAndOpcode.dcrH : LengthAndOpcode.Statement .dcrH 
    := LengthAndOpcode.intro 0x25 rfl rfl rfl
theorem LengthAndOpcode.mviH (v : Byte) : LengthAndOpcode.Statement (.mviH v) 
    := LengthAndOpcode.intro 0x26 rfl rfl rfl
theorem LengthAndOpcode.daa : LengthAndOpcode.Statement .daa 
    := LengthAndOpcode.intro 0x27 rfl rfl rfl
theorem LengthAndOpcode.undocumented28 : LengthAndOpcode.Statement .undocumented28 
    := LengthAndOpcode.intro 0x28 rfl rfl rfl
theorem LengthAndOpcode.dadH : LengthAndOpcode.Statement .dadH 
    := LengthAndOpcode.intro 0x29 rfl rfl rfl
theorem LengthAndOpcode.lhld (v : Addr) : LengthAndOpcode.Statement (.lhld v) 
    := LengthAndOpcode.intro 0x2A rfl rfl (congrArg Instr.lhld (Machine.word16_hi_lo v))
theorem LengthAndOpcode.dcxH : LengthAndOpcode.Statement .dcxH 
    := LengthAndOpcode.intro 0x2B rfl rfl rfl
theorem LengthAndOpcode.inrL : LengthAndOpcode.Statement .inrL 
    := LengthAndOpcode.intro 0x2C rfl rfl rfl
theorem LengthAndOpcode.dcrL : LengthAndOpcode.Statement .dcrL 
    := LengthAndOpcode.intro 0x2D rfl rfl rfl
theorem LengthAndOpcode.mviL (v : Byte) : LengthAndOpcode.Statement (.mviL v) 
    := LengthAndOpcode.intro 0x2E rfl rfl rfl
theorem LengthAndOpcode.cma : LengthAndOpcode.Statement .cma 
    := LengthAndOpcode.intro 0x2F rfl rfl rfl
theorem LengthAndOpcode.undocumented30 : LengthAndOpcode.Statement .undocumented30 
    := LengthAndOpcode.intro 0x30 rfl rfl rfl
theorem LengthAndOpcode.lxiSp (v : Addr) : LengthAndOpcode.Statement (.lxiSp v) 
    := LengthAndOpcode.intro 0x31 rfl rfl (congrArg Instr.lxiSp (Machine.word16_hi_lo v))
theorem LengthAndOpcode.sta (v : Addr) : LengthAndOpcode.Statement (.sta v) 
    := LengthAndOpcode.intro 0x32 rfl rfl (congrArg Instr.sta (Machine.word16_hi_lo v))
theorem LengthAndOpcode.inxSp : LengthAndOpcode.Statement .inxSp 
    := LengthAndOpcode.intro 0x33 rfl rfl rfl
theorem LengthAndOpcode.inrM : LengthAndOpcode.Statement .inrM 
    := LengthAndOpcode.intro 0x34 rfl rfl rfl
theorem LengthAndOpcode.dcrM : LengthAndOpcode.Statement .dcrM 
    := LengthAndOpcode.intro 0x35 rfl rfl rfl
theorem LengthAndOpcode.mviM (v : Byte) : LengthAndOpcode.Statement (.mviM v) 
    := LengthAndOpcode.intro 0x36 rfl rfl rfl
theorem LengthAndOpcode.stc : LengthAndOpcode.Statement .stc 
    := LengthAndOpcode.intro 0x37 rfl rfl rfl
theorem LengthAndOpcode.undocumented38 : LengthAndOpcode.Statement .undocumented38 
    := LengthAndOpcode.intro 0x38 rfl rfl rfl
theorem LengthAndOpcode.dadSp : LengthAndOpcode.Statement .dadSp 
    := LengthAndOpcode.intro 0x39 rfl rfl rfl
theorem LengthAndOpcode.lda (v : Addr) : LengthAndOpcode.Statement (.lda v) 
    := LengthAndOpcode.intro 0x3A rfl rfl (congrArg Instr.lda (Machine.word16_hi_lo v))
theorem LengthAndOpcode.dcxSp : LengthAndOpcode.Statement .dcxSp 
    := LengthAndOpcode.intro 0x3B rfl rfl rfl
theorem LengthAndOpcode.inrA : LengthAndOpcode.Statement .inrA 
    := LengthAndOpcode.intro 0x3C rfl rfl rfl
theorem LengthAndOpcode.dcrA : LengthAndOpcode.Statement .dcrA 
    := LengthAndOpcode.intro 0x3D rfl rfl rfl
theorem LengthAndOpcode.mviA (v : Byte) : LengthAndOpcode.Statement (.mviA v) 
    := LengthAndOpcode.intro 0x3E rfl rfl rfl
theorem LengthAndOpcode.cmc : LengthAndOpcode.Statement .cmc 
    := LengthAndOpcode.intro 0x3F rfl rfl rfl
theorem LengthAndOpcode.movBB : LengthAndOpcode.Statement .movBB 
    := LengthAndOpcode.intro 0x40 rfl rfl rfl
theorem LengthAndOpcode.movBC : LengthAndOpcode.Statement .movBC 
    := LengthAndOpcode.intro 0x41 rfl rfl rfl
theorem LengthAndOpcode.movBD : LengthAndOpcode.Statement .movBD 
    := LengthAndOpcode.intro 0x42 rfl rfl rfl
theorem LengthAndOpcode.movBE : LengthAndOpcode.Statement .movBE 
    := LengthAndOpcode.intro 0x43 rfl rfl rfl
theorem LengthAndOpcode.movBH : LengthAndOpcode.Statement .movBH 
    := LengthAndOpcode.intro 0x44 rfl rfl rfl
theorem LengthAndOpcode.movBL : LengthAndOpcode.Statement .movBL 
    := LengthAndOpcode.intro 0x45 rfl rfl rfl
theorem LengthAndOpcode.movBM : LengthAndOpcode.Statement .movBM 
    := LengthAndOpcode.intro 0x46 rfl rfl rfl
theorem LengthAndOpcode.movBA : LengthAndOpcode.Statement .movBA 
    := LengthAndOpcode.intro 0x47 rfl rfl rfl
theorem LengthAndOpcode.movCB : LengthAndOpcode.Statement .movCB 
    := LengthAndOpcode.intro 0x48 rfl rfl rfl
theorem LengthAndOpcode.movCC : LengthAndOpcode.Statement .movCC 
    := LengthAndOpcode.intro 0x49 rfl rfl rfl
theorem LengthAndOpcode.movCD : LengthAndOpcode.Statement .movCD 
    := LengthAndOpcode.intro 0x4A rfl rfl rfl
theorem LengthAndOpcode.movCE : LengthAndOpcode.Statement .movCE 
    := LengthAndOpcode.intro 0x4B rfl rfl rfl
theorem LengthAndOpcode.movCH : LengthAndOpcode.Statement .movCH 
    := LengthAndOpcode.intro 0x4C rfl rfl rfl
theorem LengthAndOpcode.movCL : LengthAndOpcode.Statement .movCL 
    := LengthAndOpcode.intro 0x4D rfl rfl rfl
theorem LengthAndOpcode.movCM : LengthAndOpcode.Statement .movCM 
    := LengthAndOpcode.intro 0x4E rfl rfl rfl
theorem LengthAndOpcode.movCA : LengthAndOpcode.Statement .movCA 
    := LengthAndOpcode.intro 0x4F rfl rfl rfl
theorem LengthAndOpcode.movDB : LengthAndOpcode.Statement .movDB 
    := LengthAndOpcode.intro 0x50 rfl rfl rfl
theorem LengthAndOpcode.movDC : LengthAndOpcode.Statement .movDC 
    := LengthAndOpcode.intro 0x51 rfl rfl rfl
theorem LengthAndOpcode.movDD : LengthAndOpcode.Statement .movDD 
    := LengthAndOpcode.intro 0x52 rfl rfl rfl
theorem LengthAndOpcode.movDE : LengthAndOpcode.Statement .movDE 
    := LengthAndOpcode.intro 0x53 rfl rfl rfl
theorem LengthAndOpcode.movDH : LengthAndOpcode.Statement .movDH 
    := LengthAndOpcode.intro 0x54 rfl rfl rfl
theorem LengthAndOpcode.movDL : LengthAndOpcode.Statement .movDL 
    := LengthAndOpcode.intro 0x55 rfl rfl rfl
theorem LengthAndOpcode.movDM : LengthAndOpcode.Statement .movDM 
    := LengthAndOpcode.intro 0x56 rfl rfl rfl
theorem LengthAndOpcode.movDA : LengthAndOpcode.Statement .movDA 
    := LengthAndOpcode.intro 0x57 rfl rfl rfl
theorem LengthAndOpcode.movEB : LengthAndOpcode.Statement .movEB 
    := LengthAndOpcode.intro 0x58 rfl rfl rfl
theorem LengthAndOpcode.movEC : LengthAndOpcode.Statement .movEC 
    := LengthAndOpcode.intro 0x59 rfl rfl rfl
theorem LengthAndOpcode.movED : LengthAndOpcode.Statement .movED 
    := LengthAndOpcode.intro 0x5A rfl rfl rfl
theorem LengthAndOpcode.movEE : LengthAndOpcode.Statement .movEE 
    := LengthAndOpcode.intro 0x5B rfl rfl rfl
theorem LengthAndOpcode.movEH : LengthAndOpcode.Statement .movEH 
    := LengthAndOpcode.intro 0x5C rfl rfl rfl
theorem LengthAndOpcode.movEL : LengthAndOpcode.Statement .movEL 
    := LengthAndOpcode.intro 0x5D rfl rfl rfl
theorem LengthAndOpcode.movEM : LengthAndOpcode.Statement .movEM 
    := LengthAndOpcode.intro 0x5E rfl rfl rfl
theorem LengthAndOpcode.movEA : LengthAndOpcode.Statement .movEA 
    := LengthAndOpcode.intro 0x5F rfl rfl rfl
theorem LengthAndOpcode.movHB : LengthAndOpcode.Statement .movHB 
    := LengthAndOpcode.intro 0x60 rfl rfl rfl
theorem LengthAndOpcode.movHC : LengthAndOpcode.Statement .movHC 
    := LengthAndOpcode.intro 0x61 rfl rfl rfl
theorem LengthAndOpcode.movHD : LengthAndOpcode.Statement .movHD 
    := LengthAndOpcode.intro 0x62 rfl rfl rfl
theorem LengthAndOpcode.movHE : LengthAndOpcode.Statement .movHE 
    := LengthAndOpcode.intro 0x63 rfl rfl rfl
theorem LengthAndOpcode.movHH : LengthAndOpcode.Statement .movHH 
    := LengthAndOpcode.intro 0x64 rfl rfl rfl
theorem LengthAndOpcode.movHL : LengthAndOpcode.Statement .movHL 
    := LengthAndOpcode.intro 0x65 rfl rfl rfl
theorem LengthAndOpcode.movHM : LengthAndOpcode.Statement .movHM 
    := LengthAndOpcode.intro 0x66 rfl rfl rfl
theorem LengthAndOpcode.movHA : LengthAndOpcode.Statement .movHA 
    := LengthAndOpcode.intro 0x67 rfl rfl rfl
theorem LengthAndOpcode.movLB : LengthAndOpcode.Statement .movLB 
    := LengthAndOpcode.intro 0x68 rfl rfl rfl
theorem LengthAndOpcode.movLC : LengthAndOpcode.Statement .movLC 
    := LengthAndOpcode.intro 0x69 rfl rfl rfl
theorem LengthAndOpcode.movLD : LengthAndOpcode.Statement .movLD 
    := LengthAndOpcode.intro 0x6A rfl rfl rfl
theorem LengthAndOpcode.movLE : LengthAndOpcode.Statement .movLE 
    := LengthAndOpcode.intro 0x6B rfl rfl rfl
theorem LengthAndOpcode.movLH : LengthAndOpcode.Statement .movLH 
    := LengthAndOpcode.intro 0x6C rfl rfl rfl
theorem LengthAndOpcode.movLL : LengthAndOpcode.Statement .movLL 
    := LengthAndOpcode.intro 0x6D rfl rfl rfl
theorem LengthAndOpcode.movLM : LengthAndOpcode.Statement .movLM 
    := LengthAndOpcode.intro 0x6E rfl rfl rfl
theorem LengthAndOpcode.movLA : LengthAndOpcode.Statement .movLA 
    := LengthAndOpcode.intro 0x6F rfl rfl rfl
theorem LengthAndOpcode.movMB : LengthAndOpcode.Statement .movMB 
    := LengthAndOpcode.intro 0x70 rfl rfl rfl
theorem LengthAndOpcode.movMC : LengthAndOpcode.Statement .movMC 
    := LengthAndOpcode.intro 0x71 rfl rfl rfl
theorem LengthAndOpcode.movMD : LengthAndOpcode.Statement .movMD 
    := LengthAndOpcode.intro 0x72 rfl rfl rfl
theorem LengthAndOpcode.movME : LengthAndOpcode.Statement .movME 
    := LengthAndOpcode.intro 0x73 rfl rfl rfl
theorem LengthAndOpcode.movMH : LengthAndOpcode.Statement .movMH 
    := LengthAndOpcode.intro 0x74 rfl rfl rfl
theorem LengthAndOpcode.movML : LengthAndOpcode.Statement .movML 
    := LengthAndOpcode.intro 0x75 rfl rfl rfl
theorem LengthAndOpcode.hlt : LengthAndOpcode.Statement .hlt 
    := LengthAndOpcode.intro 0x76 rfl rfl rfl
theorem LengthAndOpcode.movMA : LengthAndOpcode.Statement .movMA 
    := LengthAndOpcode.intro 0x77 rfl rfl rfl
theorem LengthAndOpcode.movAB : LengthAndOpcode.Statement .movAB 
    := LengthAndOpcode.intro 0x78 rfl rfl rfl
theorem LengthAndOpcode.movAC : LengthAndOpcode.Statement .movAC 
    := LengthAndOpcode.intro 0x79 rfl rfl rfl
theorem LengthAndOpcode.movAD : LengthAndOpcode.Statement .movAD 
    := LengthAndOpcode.intro 0x7A rfl rfl rfl
theorem LengthAndOpcode.movAE : LengthAndOpcode.Statement .movAE 
    := LengthAndOpcode.intro 0x7B rfl rfl rfl
theorem LengthAndOpcode.movAH : LengthAndOpcode.Statement .movAH 
    := LengthAndOpcode.intro 0x7C rfl rfl rfl
theorem LengthAndOpcode.movAL : LengthAndOpcode.Statement .movAL 
    := LengthAndOpcode.intro 0x7D rfl rfl rfl
theorem LengthAndOpcode.movAM : LengthAndOpcode.Statement .movAM 
    := LengthAndOpcode.intro 0x7E rfl rfl rfl
theorem LengthAndOpcode.movAA : LengthAndOpcode.Statement .movAA 
    := LengthAndOpcode.intro 0x7F rfl rfl rfl
theorem LengthAndOpcode.addB : LengthAndOpcode.Statement .addB 
    := LengthAndOpcode.intro 0x80 rfl rfl rfl
theorem LengthAndOpcode.addC : LengthAndOpcode.Statement .addC 
    := LengthAndOpcode.intro 0x81 rfl rfl rfl
theorem LengthAndOpcode.addD : LengthAndOpcode.Statement .addD 
    := LengthAndOpcode.intro 0x82 rfl rfl rfl
theorem LengthAndOpcode.addE : LengthAndOpcode.Statement .addE 
    := LengthAndOpcode.intro 0x83 rfl rfl rfl
theorem LengthAndOpcode.addH : LengthAndOpcode.Statement .addH 
    := LengthAndOpcode.intro 0x84 rfl rfl rfl
theorem LengthAndOpcode.addL : LengthAndOpcode.Statement .addL 
    := LengthAndOpcode.intro 0x85 rfl rfl rfl
theorem LengthAndOpcode.addM : LengthAndOpcode.Statement .addM 
    := LengthAndOpcode.intro 0x86 rfl rfl rfl
theorem LengthAndOpcode.addA : LengthAndOpcode.Statement .addA 
    := LengthAndOpcode.intro 0x87 rfl rfl rfl
theorem LengthAndOpcode.adcB : LengthAndOpcode.Statement .adcB 
    := LengthAndOpcode.intro 0x88 rfl rfl rfl
theorem LengthAndOpcode.adcC : LengthAndOpcode.Statement .adcC 
    := LengthAndOpcode.intro 0x89 rfl rfl rfl
theorem LengthAndOpcode.adcD : LengthAndOpcode.Statement .adcD 
    := LengthAndOpcode.intro 0x8A rfl rfl rfl
theorem LengthAndOpcode.adcE : LengthAndOpcode.Statement .adcE 
    := LengthAndOpcode.intro 0x8B rfl rfl rfl
theorem LengthAndOpcode.adcH : LengthAndOpcode.Statement .adcH 
    := LengthAndOpcode.intro 0x8C rfl rfl rfl
theorem LengthAndOpcode.adcL : LengthAndOpcode.Statement .adcL 
    := LengthAndOpcode.intro 0x8D rfl rfl rfl
theorem LengthAndOpcode.adcM : LengthAndOpcode.Statement .adcM 
    := LengthAndOpcode.intro 0x8E rfl rfl rfl
theorem LengthAndOpcode.adcA : LengthAndOpcode.Statement .adcA 
    := LengthAndOpcode.intro 0x8F rfl rfl rfl
theorem LengthAndOpcode.subB : LengthAndOpcode.Statement .subB 
    := LengthAndOpcode.intro 0x90 rfl rfl rfl
theorem LengthAndOpcode.subC : LengthAndOpcode.Statement .subC 
    := LengthAndOpcode.intro 0x91 rfl rfl rfl
theorem LengthAndOpcode.subD : LengthAndOpcode.Statement .subD 
    := LengthAndOpcode.intro 0x92 rfl rfl rfl
theorem LengthAndOpcode.subE : LengthAndOpcode.Statement .subE 
    := LengthAndOpcode.intro 0x93 rfl rfl rfl
theorem LengthAndOpcode.subH : LengthAndOpcode.Statement .subH 
    := LengthAndOpcode.intro 0x94 rfl rfl rfl
theorem LengthAndOpcode.subL : LengthAndOpcode.Statement .subL 
    := LengthAndOpcode.intro 0x95 rfl rfl rfl
theorem LengthAndOpcode.subM : LengthAndOpcode.Statement .subM 
    := LengthAndOpcode.intro 0x96 rfl rfl rfl
theorem LengthAndOpcode.subA : LengthAndOpcode.Statement .subA 
    := LengthAndOpcode.intro 0x97 rfl rfl rfl
theorem LengthAndOpcode.sbbB : LengthAndOpcode.Statement .sbbB 
    := LengthAndOpcode.intro 0x98 rfl rfl rfl
theorem LengthAndOpcode.sbbC : LengthAndOpcode.Statement .sbbC 
    := LengthAndOpcode.intro 0x99 rfl rfl rfl
theorem LengthAndOpcode.sbbD : LengthAndOpcode.Statement .sbbD 
    := LengthAndOpcode.intro 0x9A rfl rfl rfl
theorem LengthAndOpcode.sbbE : LengthAndOpcode.Statement .sbbE 
    := LengthAndOpcode.intro 0x9B rfl rfl rfl
theorem LengthAndOpcode.sbbH : LengthAndOpcode.Statement .sbbH 
    := LengthAndOpcode.intro 0x9C rfl rfl rfl
theorem LengthAndOpcode.sbbL : LengthAndOpcode.Statement .sbbL 
    := LengthAndOpcode.intro 0x9D rfl rfl rfl
theorem LengthAndOpcode.sbbM : LengthAndOpcode.Statement .sbbM 
    := LengthAndOpcode.intro 0x9E rfl rfl rfl
theorem LengthAndOpcode.sbbA : LengthAndOpcode.Statement .sbbA 
    := LengthAndOpcode.intro 0x9F rfl rfl rfl
theorem LengthAndOpcode.anaB : LengthAndOpcode.Statement .anaB 
    := LengthAndOpcode.intro 0xA0 rfl rfl rfl
theorem LengthAndOpcode.anaC : LengthAndOpcode.Statement .anaC 
    := LengthAndOpcode.intro 0xA1 rfl rfl rfl
theorem LengthAndOpcode.anaD : LengthAndOpcode.Statement .anaD 
    := LengthAndOpcode.intro 0xA2 rfl rfl rfl
theorem LengthAndOpcode.anaE : LengthAndOpcode.Statement .anaE 
    := LengthAndOpcode.intro 0xA3 rfl rfl rfl
theorem LengthAndOpcode.anaH : LengthAndOpcode.Statement .anaH 
    := LengthAndOpcode.intro 0xA4 rfl rfl rfl
theorem LengthAndOpcode.anaL : LengthAndOpcode.Statement .anaL 
    := LengthAndOpcode.intro 0xA5 rfl rfl rfl
theorem LengthAndOpcode.anaM : LengthAndOpcode.Statement .anaM 
    := LengthAndOpcode.intro 0xA6 rfl rfl rfl
theorem LengthAndOpcode.anaA : LengthAndOpcode.Statement .anaA 
    := LengthAndOpcode.intro 0xA7 rfl rfl rfl
theorem LengthAndOpcode.xraB : LengthAndOpcode.Statement .xraB 
    := LengthAndOpcode.intro 0xA8 rfl rfl rfl
theorem LengthAndOpcode.xraC : LengthAndOpcode.Statement .xraC 
    := LengthAndOpcode.intro 0xA9 rfl rfl rfl
theorem LengthAndOpcode.xraD : LengthAndOpcode.Statement .xraD 
    := LengthAndOpcode.intro 0xAA rfl rfl rfl
theorem LengthAndOpcode.xraE : LengthAndOpcode.Statement .xraE 
    := LengthAndOpcode.intro 0xAB rfl rfl rfl
theorem LengthAndOpcode.xraH : LengthAndOpcode.Statement .xraH 
    := LengthAndOpcode.intro 0xAC rfl rfl rfl
theorem LengthAndOpcode.xraL : LengthAndOpcode.Statement .xraL 
    := LengthAndOpcode.intro 0xAD rfl rfl rfl
theorem LengthAndOpcode.xraM : LengthAndOpcode.Statement .xraM 
    := LengthAndOpcode.intro 0xAE rfl rfl rfl
theorem LengthAndOpcode.xraA : LengthAndOpcode.Statement .xraA 
    := LengthAndOpcode.intro 0xAF rfl rfl rfl
theorem LengthAndOpcode.oraB : LengthAndOpcode.Statement .oraB 
    := LengthAndOpcode.intro 0xB0 rfl rfl rfl
theorem LengthAndOpcode.oraC : LengthAndOpcode.Statement .oraC 
    := LengthAndOpcode.intro 0xB1 rfl rfl rfl
theorem LengthAndOpcode.oraD : LengthAndOpcode.Statement .oraD 
    := LengthAndOpcode.intro 0xB2 rfl rfl rfl
theorem LengthAndOpcode.oraE : LengthAndOpcode.Statement .oraE 
    := LengthAndOpcode.intro 0xB3 rfl rfl rfl
theorem LengthAndOpcode.oraH : LengthAndOpcode.Statement .oraH 
    := LengthAndOpcode.intro 0xB4 rfl rfl rfl
theorem LengthAndOpcode.oraL : LengthAndOpcode.Statement .oraL 
    := LengthAndOpcode.intro 0xB5 rfl rfl rfl
theorem LengthAndOpcode.oraM : LengthAndOpcode.Statement .oraM 
    := LengthAndOpcode.intro 0xB6 rfl rfl rfl
theorem LengthAndOpcode.oraA : LengthAndOpcode.Statement .oraA 
    := LengthAndOpcode.intro 0xB7 rfl rfl rfl
theorem LengthAndOpcode.cmpB : LengthAndOpcode.Statement .cmpB 
    := LengthAndOpcode.intro 0xB8 rfl rfl rfl
theorem LengthAndOpcode.cmpC : LengthAndOpcode.Statement .cmpC 
    := LengthAndOpcode.intro 0xB9 rfl rfl rfl
theorem LengthAndOpcode.cmpD : LengthAndOpcode.Statement .cmpD 
    := LengthAndOpcode.intro 0xBA rfl rfl rfl
theorem LengthAndOpcode.cmpE : LengthAndOpcode.Statement .cmpE 
    := LengthAndOpcode.intro 0xBB rfl rfl rfl
theorem LengthAndOpcode.cmpH : LengthAndOpcode.Statement .cmpH 
    := LengthAndOpcode.intro 0xBC rfl rfl rfl
theorem LengthAndOpcode.cmpL : LengthAndOpcode.Statement .cmpL 
    := LengthAndOpcode.intro 0xBD rfl rfl rfl
theorem LengthAndOpcode.cmpM : LengthAndOpcode.Statement .cmpM 
    := LengthAndOpcode.intro 0xBE rfl rfl rfl
theorem LengthAndOpcode.cmpA : LengthAndOpcode.Statement .cmpA 
    := LengthAndOpcode.intro 0xBF rfl rfl rfl
theorem LengthAndOpcode.rnz : LengthAndOpcode.Statement .rnz 
    := LengthAndOpcode.intro 0xC0 rfl rfl rfl
theorem LengthAndOpcode.popB : LengthAndOpcode.Statement .popB 
    := LengthAndOpcode.intro 0xC1 rfl rfl rfl
theorem LengthAndOpcode.jnz (v : Addr) : LengthAndOpcode.Statement (.jnz v) 
    := LengthAndOpcode.intro 0xC2 rfl rfl (congrArg Instr.jnz (Machine.word16_hi_lo v))
theorem LengthAndOpcode.jmp (v : Addr) : LengthAndOpcode.Statement (.jmp v) 
    := LengthAndOpcode.intro 0xC3 rfl rfl (congrArg Instr.jmp (Machine.word16_hi_lo v))
theorem LengthAndOpcode.cnz (v : Addr) : LengthAndOpcode.Statement (.cnz v) 
    := LengthAndOpcode.intro 0xC4 rfl rfl (congrArg Instr.cnz (Machine.word16_hi_lo v))
theorem LengthAndOpcode.pushB : LengthAndOpcode.Statement .pushB 
    := LengthAndOpcode.intro 0xC5 rfl rfl rfl
theorem LengthAndOpcode.adi (v : Byte) : LengthAndOpcode.Statement (.adi v) 
    := LengthAndOpcode.intro 0xC6 rfl rfl rfl
theorem LengthAndOpcode.rst0 : LengthAndOpcode.Statement .rst0 
    := LengthAndOpcode.intro 0xC7 rfl rfl rfl
theorem LengthAndOpcode.rz : LengthAndOpcode.Statement .rz 
    := LengthAndOpcode.intro 0xC8 rfl rfl rfl
theorem LengthAndOpcode.ret : LengthAndOpcode.Statement .ret 
    := LengthAndOpcode.intro 0xC9 rfl rfl rfl
theorem LengthAndOpcode.jz (v : Addr) : LengthAndOpcode.Statement (.jz v) 
    := LengthAndOpcode.intro 0xCA rfl rfl (congrArg Instr.jz (Machine.word16_hi_lo v))
theorem LengthAndOpcode.undocumentedCB : LengthAndOpcode.Statement .undocumentedCB 
    := LengthAndOpcode.intro 0xCB rfl rfl rfl
theorem LengthAndOpcode.cz (v : Addr) : LengthAndOpcode.Statement (.cz v) 
    := LengthAndOpcode.intro 0xCC rfl rfl (congrArg Instr.cz (Machine.word16_hi_lo v))
theorem LengthAndOpcode.call (v : Addr) : LengthAndOpcode.Statement (.call v) 
    := LengthAndOpcode.intro 0xCD rfl rfl (congrArg Instr.call (Machine.word16_hi_lo v))
theorem LengthAndOpcode.aci (v : Byte) : LengthAndOpcode.Statement (.aci v) 
    := LengthAndOpcode.intro 0xCE rfl rfl rfl
theorem LengthAndOpcode.rst1 : LengthAndOpcode.Statement .rst1 
    := LengthAndOpcode.intro 0xCF rfl rfl rfl
theorem LengthAndOpcode.rnc : LengthAndOpcode.Statement .rnc 
    := LengthAndOpcode.intro 0xD0 rfl rfl rfl
theorem LengthAndOpcode.popD : LengthAndOpcode.Statement .popD 
    := LengthAndOpcode.intro 0xD1 rfl rfl rfl
theorem LengthAndOpcode.jnc (v : Addr) : LengthAndOpcode.Statement (.jnc v) 
    := LengthAndOpcode.intro 0xD2 rfl rfl (congrArg Instr.jnc (Machine.word16_hi_lo v))
theorem LengthAndOpcode.outPort (v : Byte) : LengthAndOpcode.Statement (.outPort v) 
    := LengthAndOpcode.intro 0xD3 rfl rfl rfl
theorem LengthAndOpcode.cnc (v : Addr) : LengthAndOpcode.Statement (.cnc v) 
    := LengthAndOpcode.intro 0xD4 rfl rfl (congrArg Instr.cnc (Machine.word16_hi_lo v))
theorem LengthAndOpcode.pushD : LengthAndOpcode.Statement .pushD 
    := LengthAndOpcode.intro 0xD5 rfl rfl rfl
theorem LengthAndOpcode.sui (v : Byte) : LengthAndOpcode.Statement (.sui v) 
    := LengthAndOpcode.intro 0xD6 rfl rfl rfl
theorem LengthAndOpcode.rst2 : LengthAndOpcode.Statement .rst2 
    := LengthAndOpcode.intro 0xD7 rfl rfl rfl
theorem LengthAndOpcode.rc : LengthAndOpcode.Statement .rc 
    := LengthAndOpcode.intro 0xD8 rfl rfl rfl
theorem LengthAndOpcode.undocumentedD9 : LengthAndOpcode.Statement .undocumentedD9 
    := LengthAndOpcode.intro 0xD9 rfl rfl rfl
theorem LengthAndOpcode.jc (v : Addr) : LengthAndOpcode.Statement (.jc v) 
    := LengthAndOpcode.intro 0xDA rfl rfl (congrArg Instr.jc (Machine.word16_hi_lo v))
theorem LengthAndOpcode.inPort (v : Byte) : LengthAndOpcode.Statement (.inPort v) 
    := LengthAndOpcode.intro 0xDB rfl rfl rfl
theorem LengthAndOpcode.cc (v : Addr) : LengthAndOpcode.Statement (.cc v) 
    := LengthAndOpcode.intro 0xDC rfl rfl (congrArg Instr.cc (Machine.word16_hi_lo v))
theorem LengthAndOpcode.undocumentedDD : LengthAndOpcode.Statement .undocumentedDD 
    := LengthAndOpcode.intro 0xDD rfl rfl rfl
theorem LengthAndOpcode.sbi (v : Byte) : LengthAndOpcode.Statement (.sbi v) 
    := LengthAndOpcode.intro 0xDE rfl rfl rfl
theorem LengthAndOpcode.rst3 : LengthAndOpcode.Statement .rst3 
    := LengthAndOpcode.intro 0xDF rfl rfl rfl
theorem LengthAndOpcode.rpo : LengthAndOpcode.Statement .rpo 
    := LengthAndOpcode.intro 0xE0 rfl rfl rfl
theorem LengthAndOpcode.popH : LengthAndOpcode.Statement .popH 
    := LengthAndOpcode.intro 0xE1 rfl rfl rfl
theorem LengthAndOpcode.jpo (v : Addr) : LengthAndOpcode.Statement (.jpo v) 
    := LengthAndOpcode.intro 0xE2 rfl rfl (congrArg Instr.jpo (Machine.word16_hi_lo v))
theorem LengthAndOpcode.xthl : LengthAndOpcode.Statement .xthl 
    := LengthAndOpcode.intro 0xE3 rfl rfl rfl
theorem LengthAndOpcode.cpo (v : Addr) : LengthAndOpcode.Statement (.cpo v) 
    := LengthAndOpcode.intro 0xE4 rfl rfl (congrArg Instr.cpo (Machine.word16_hi_lo v))
theorem LengthAndOpcode.pushH : LengthAndOpcode.Statement .pushH 
    := LengthAndOpcode.intro 0xE5 rfl rfl rfl
theorem LengthAndOpcode.ani (v : Byte) : LengthAndOpcode.Statement (.ani v) 
    := LengthAndOpcode.intro 0xE6 rfl rfl rfl
theorem LengthAndOpcode.rst4 : LengthAndOpcode.Statement .rst4 
    := LengthAndOpcode.intro 0xE7 rfl rfl rfl
theorem LengthAndOpcode.rpe : LengthAndOpcode.Statement .rpe 
    := LengthAndOpcode.intro 0xE8 rfl rfl rfl
theorem LengthAndOpcode.pchl : LengthAndOpcode.Statement .pchl 
    := LengthAndOpcode.intro 0xE9 rfl rfl rfl
theorem LengthAndOpcode.jpe (v : Addr) : LengthAndOpcode.Statement (.jpe v) 
    := LengthAndOpcode.intro 0xEA rfl rfl (congrArg Instr.jpe (Machine.word16_hi_lo v))
theorem LengthAndOpcode.xchg : LengthAndOpcode.Statement .xchg 
    := LengthAndOpcode.intro 0xEB rfl rfl rfl
theorem LengthAndOpcode.cpe (v : Addr) : LengthAndOpcode.Statement (.cpe v) 
    := LengthAndOpcode.intro 0xEC rfl rfl (congrArg Instr.cpe (Machine.word16_hi_lo v))
theorem LengthAndOpcode.undocumentedED : LengthAndOpcode.Statement .undocumentedED 
    := LengthAndOpcode.intro 0xED rfl rfl rfl
theorem LengthAndOpcode.xri (v : Byte) : LengthAndOpcode.Statement (.xri v) 
    := LengthAndOpcode.intro 0xEE rfl rfl rfl
theorem LengthAndOpcode.rst5 : LengthAndOpcode.Statement .rst5 
    := LengthAndOpcode.intro 0xEF rfl rfl rfl
theorem LengthAndOpcode.rp : LengthAndOpcode.Statement .rp 
    := LengthAndOpcode.intro 0xF0 rfl rfl rfl
theorem LengthAndOpcode.popPsw : LengthAndOpcode.Statement .popPsw 
    := LengthAndOpcode.intro 0xF1 rfl rfl rfl
theorem LengthAndOpcode.jp (v : Addr) : LengthAndOpcode.Statement (.jp v) 
    := LengthAndOpcode.intro 0xF2 rfl rfl (congrArg Instr.jp (Machine.word16_hi_lo v))
theorem LengthAndOpcode.di : LengthAndOpcode.Statement .di 
    := LengthAndOpcode.intro 0xF3 rfl rfl rfl
theorem LengthAndOpcode.cp (v : Addr) : LengthAndOpcode.Statement (.cp v) 
    := LengthAndOpcode.intro 0xF4 rfl rfl (congrArg Instr.cp (Machine.word16_hi_lo v))
theorem LengthAndOpcode.pushPsw : LengthAndOpcode.Statement .pushPsw 
    := LengthAndOpcode.intro 0xF5 rfl rfl rfl
theorem LengthAndOpcode.ori (v : Byte) : LengthAndOpcode.Statement (.ori v) 
    := LengthAndOpcode.intro 0xF6 rfl rfl rfl
theorem LengthAndOpcode.rst6 : LengthAndOpcode.Statement .rst6 
    := LengthAndOpcode.intro 0xF7 rfl rfl rfl
theorem LengthAndOpcode.rm : LengthAndOpcode.Statement .rm 
    := LengthAndOpcode.intro 0xF8 rfl rfl rfl
theorem LengthAndOpcode.sphl : LengthAndOpcode.Statement .sphl 
    := LengthAndOpcode.intro 0xF9 rfl rfl rfl
theorem LengthAndOpcode.jm (v : Addr) : LengthAndOpcode.Statement (.jm v) 
    := LengthAndOpcode.intro 0xFA rfl rfl (congrArg Instr.jm (Machine.word16_hi_lo v))
theorem LengthAndOpcode.ei : LengthAndOpcode.Statement .ei 
    := LengthAndOpcode.intro 0xFB rfl rfl rfl
theorem LengthAndOpcode.cm (v : Addr) : LengthAndOpcode.Statement (.cm v) 
    := LengthAndOpcode.intro 0xFC rfl rfl (congrArg Instr.cm (Machine.word16_hi_lo v))
theorem LengthAndOpcode.undocumentedFD : LengthAndOpcode.Statement .undocumentedFD 
    := LengthAndOpcode.intro 0xFD rfl rfl rfl
theorem LengthAndOpcode.cpi (v : Byte) : LengthAndOpcode.Statement (.cpi v) 
    := LengthAndOpcode.intro 0xFE rfl rfl rfl
theorem LengthAndOpcode.rst7 : LengthAndOpcode.Statement .rst7 
    := LengthAndOpcode.intro 0xFF rfl rfl rfl

end Sys2Proof.Laws
end

