-- ==== Sys2Proof/Tests/Slice0.lean ====
section
/-!
SUPPORT. The model's own tests. The expected results come from the spec: its encodings (spec/30_encoding.md), the examples
of its instruction rules, and its single-step vectors (spec/95_test_vectors.md, part L2; a test's name gives the vector's
number). The last part gives, for every statement that has hypotheses, concrete data that meet them.
-/

namespace Sys2Proof.Tests

open Machine Expect

/-- A state about to run the bytes at `pc`. -/
def start (pc : Addr) (bytes : List Byte) (s : State) : State := placeBytes pc bytes { s with pc := pc }

/-- What is seen of the state that `o` answers. -/
def view {β : Type} (o : Out) (see : State → β) : Option β :=
  match o with
  | .next t => some (see t)
  | _ => none

/-- What is seen of the state after one step. -/
def after {β : Type} (s : State) (see : State → β) : Option β := view (step s) see

/-! ## The constants -/

theorem test_half_frame : Config.halfFrame = Config.clockHz / 120 := by decide

theorem test_address_mask : Config.addrMask.toNat + 1 = Config.memSize := by decide

/-! ## WellFormed refuses what it must -/

theorem test_wellFormed_refuses_hlt : Instr.wellFormed true .hlt = false := by decide

theorem test_wellFormed_refuses_undocumented : Instr.wellFormed true .undocumentedCB = false := by decide

theorem test_wellFormed_refuses_unlisted : Instr.wellFormed false (.mviM 0x11) = false := by decide

theorem test_wellFormed_admits_unlisted : Instr.wellFormed true (.mviM 0x11) = true := by decide

theorem test_wellFormed_admits_listed : Instr.wellFormed false .ral = true := by decide

/-! ## Decoding: words written out bit by bit from the encodings of R71 to R84 -/

/-- MOV D,L: `01 ddd sss`. -/
theorem test_decode_mov : decode [0b01010101] = .ok (.movDL, []) := rfl

/-- MOV E,M: `01 ddd 110`. -/
theorem test_decode_mov_from_m : decode [0b01011110] = .ok (.movEM, []) := rfl

/-- MOV M,A: `01 110 sss`. -/
theorem test_decode_mov_to_m : decode [0b01110111] = .ok (.movMA, []) := rfl

/-- MVI H,d8: `00 ddd 110`. -/
theorem test_decode_mvi : decode [0b00100110, 0x3C] = .ok (.mviH 0x3C, []) := rfl

/-- LXI SP,d16: `00 rp 0001`, low byte first. -/
theorem test_decode_lxi : decode [0b00110001, 0x00, 0x24] = .ok (.lxiSp 0x2400, []) := rfl

/-- LDAX D: `000 r1 1010`. -/
theorem test_decode_ldax : decode [0b00011010] = .ok (.ldaxD, []) := rfl

/-- STAX B: `000 r1 0010`. -/
theorem test_decode_stax : decode [0b00000010] = .ok (.staxB, []) := rfl

/-- PUSH PSW: `11 rp 0101`. -/
theorem test_decode_push : decode [0b11110101] = .ok (.pushPsw, []) := rfl

/-- POP H: `11 rp 0001`. -/
theorem test_decode_pop : decode [0b11100001] = .ok (.popH, []) := rfl

/-- SBB L: `10 ooo sss`. -/
theorem test_decode_alu : decode [0b10011101] = .ok (.sbbL, []) := rfl

/-- XRA M: `10 ooo 110`. -/
theorem test_decode_alu_m : decode [0b10101110] = .ok (.xraM, []) := rfl

/-- CPI d8: `11 ooo 110`. -/
theorem test_decode_alu_immediate : decode [0b11111110, 0x20] = .ok (.cpi 0x20, []) := rfl

/-- INR E and DCR A: `00 ddd 100` and `00 ddd 101`. -/
theorem test_decode_inr_dcr :
    decode [0b00011100] = .ok (.inrE, []) ∧ decode [0b00111101] = .ok (.dcrA, []) := ⟨rfl, rfl⟩

/-- INX D, DCX H and DAD SP: `00 rp 0011`, `00 rp 1011` and `00 rp 1001`. -/
theorem test_decode_pair_arithmetic :
    decode [0b00010011] = .ok (.inxD, []) ∧ decode [0b00101011] = .ok (.dcxH, []) ∧
      decode [0b00111001] = .ok (.dadSp, []) := ⟨rfl, rfl, rfl⟩

/-- JPO, CM and RNC: `11 ccc 010`, `11 ccc 100` and `11 ccc 000`. -/
theorem test_decode_conditional :
    decode [0b11100010, 0x34, 0x12] = .ok (.jpo 0x1234, []) ∧ decode [0b11111100, 0x34, 0x12] = .ok (.cm 0x1234, []) ∧
      decode [0b11010000] = .ok (.rnc, []) := ⟨rfl, rfl, rfl⟩

/-- RST 5: `11 nnn 111`. -/
theorem test_decode_rst : decode [0b11101111] = .ok (.rst5, []) := rfl

/-- IN and OUT take a port byte, and the bytes after the instruction are left. -/
theorem test_decode_ports :
    decode [0xDB, 0x03, 0x77] = .ok (.inPort 3, [0x77]) ∧ decode [0xD3, 0x04] = .ok (.outPort 4, []) := ⟨rfl, rfl⟩

/-- HLT is not MOV M,M. -/
theorem test_decode_hlt : decode [0b01110110] = .ok (.hlt, []) := rfl

/-- A string that ends inside an instruction, and an empty one. -/
theorem test_decode_truncated :
    decode [0xC3, 0x00] = .error (.missingOperand 0xC3) ∧ decode [0xDB] = .error (.missingOperand 0xDB) ∧
      decode [] = .error .noOpcode := ⟨rfl, rfl, rfl⟩

theorem test_encode : encode (.shld 0x2001) = [0x22, 0x01, 0x20] ∧ encode .adcD = [0x8A] := by decide

/-- A row of the opcode table has 8 bits; the operand bytes above them are 0. -/
theorem test_decodeTableWord :
    decodeTableWord 8 0xC3 = some (.jmp 0) ∧ decodeTableWord 8 0x78 = some .movAB ∧
      decodeTableWord 24 0x1234C3 = some (.jmp 0x1234) := by decide

theorem test_withFetchWord_jmp :
    after (State.reset.withFetchWord 8 0xC3) (fun t => (t.pc, t.cycle)) = some (0, 10) := by decide

/-! ## Single steps: the vectors of spec/95_test_vectors.md, L2 -/

theorem test_V40_1_movBC :
    after (start 0x0100 [0x41] { State.reset with b := 0x00, c := 0x7E }) (fun t => (t.b, t.pc, t.cycle)) = some
      (0x7E, 0x0101, 5) := by decide

theorem test_V40_3_movMA :
    after (start 0x0100 [0x77] { State.reset with a := 0x99, h := 0x50, l := 0x00 }) (fun t => (t.pc, t.cycle,
      [memRead 0x1000 t])) = some (0x0101, 7, [0x99]) := by decide

theorem test_V40_4_movEM :
    after (start 0x0100 [0x5E] (placeBytes 0x3FFF [0xC3] { State.reset with h := 0xFF, l := 0xFF })) (fun t =>
      (t.e, t.pc, t.cycle)) = some (0xC3, 0x0101, 7) := by decide

theorem test_V40_5_mviH :
    after (start 0x0100 [0x26, 0x3C] State.reset) (fun t => (t.h, t.pc, t.cycle)) = some (0x3C, 0x0102, 7) := by decide

theorem test_V40_6_mviM :
    after (start 0x0100 [0x36, 0x11]
      { State.reset with icount := 0, params := { Params.default with admitUnlisted := false } }) (fun t =>
      (t.pc, t.cycle, t.halted)) = some (0x0100, 0, some (.unknownOpcode 0x36 0 0x0100)) := by decide

theorem test_V40_7_mviM :
    after (start 0x0100 [0x36, 0x11]
      { State.reset with h := 0x21, l := 0x00, params := { Params.default with admitUnlisted := true } }) (fun t
      => (t.pc, t.cycle, [memRead 0x2100 t])) = some (0x0102, 10, [0x11]) := by decide

theorem test_V40_8_lda :
    after (start 0x0100 [0x3A, 0xFF, 0xFF] (placeBytes 0x3FFF [0x5D] State.reset)) (fun t => (t.a, t.pc,
      t.cycle)) = some (0x5D, 0x0103, 13) := by decide

theorem test_V40_9_sta :
    after (start 0x0100 [0x32, 0x45, 0x23] { State.reset with a := 0xE1 }) (fun t => (t.pc, t.cycle, [memRead
      0x2345 t])) = some (0x0103, 13, [0xE1]) := by decide

theorem test_V40_10_ldaxD :
    after (start 0x0100 [0x1A] (placeBytes 0x2010 [0x07] { State.reset with d := 0x20, e := 0x10 })) (fun t =>
      (t.a, t.pc, t.cycle)) = some (0x07, 0x0101, 7) := by decide

theorem test_V40_11_staxB :
    after (start 0x0100 [0x02] { State.reset with a := 0x08, b := 0x60, c := 0x10 }) (fun t => (t.pc, t.cycle,
      [memRead 0x2010 t])) = some (0x0101, 7, [0x08]) := by decide

theorem test_V40_12_lxiSp :
    after (start 0x0100 [0x31, 0x00, 0x24] State.reset) (fun t => (t.sp, t.pc, t.cycle)) = some (0x2400, 0x0103,
      10) := by decide

theorem test_V40_14_lhld :
    after (start 0x0100 [0x2A, 0xFF, 0xFF] (placeBytes 0x0000 [0x12] (placeBytes 0x3FFF [0x34] State.reset)))
      (fun t => (t.h, t.l, t.pc, t.cycle)) = some (0x12, 0x34, 0x0103, 16) := by decide

theorem test_V40_15_shld :
    after (start 0x0100 [0x22, 0x00, 0x22] { State.reset with h := 0xAB, l := 0xCD }) (fun t => (t.pc, t.cycle,
      [memRead 0x2200 t, memRead 0x2201 t])) = some (0x0103, 16, [0xCD, 0xAB]) := by decide

theorem test_V40_16_xchg :
    after (start 0x0100 [0xEB] { State.reset with d := 0x11, e := 0x11, h := 0x22, l := 0x22 }) (fun t => (t.d,
      t.e, t.h, t.l, t.pc, t.cycle)) = some (0x22, 0x22, 0x11, 0x11, 0x0101, 4) := by decide

theorem test_V40_17_xthl :
    after (start 0x0100 [0xE3] (placeBytes 0x23F0 [0x0A, 0x00]
      { State.reset with h := 0x12, l := 0x34, sp := 0x23F0 })) (fun t => (t.h, t.l, t.pc, t.cycle, [memRead
      0x23F0 t, memRead 0x23F1 t])) = some (0x00, 0x0A, 0x0101, 18, [0x34, 0x12]) := by decide

theorem test_V40_18_pushB :
    after (start 0x0100 [0xC5] { State.reset with b := 0x12, c := 0x34, sp := 0x0000 }) (fun t => (t.sp, t.pc,
      t.cycle, [memRead 0x3FFF t, memRead 0x3FFE t])) = some (0xFFFE, 0x0101, 11, [0x12, 0x34]) := by decide

theorem test_V40_19_pushPsw :
    after (start 0x0100 [0xF5]
      { State.reset with a := 0x5A, sp := 0x2400, flags := { State.reset.flags with s := true, z := false, p := true, cy := false } })
      (fun t => (t.sp, t.pc, t.cycle, [memRead 0x23FF t, memRead 0x23FE t])) = some (0x23FE, 0x0101, 11, [0x5A,
      0x86]) := by decide

theorem test_V40_20_popPsw :
    after (start 0x0100 [0xF1] (placeBytes 0x23FF [0x00] (placeBytes 0x23FE [0xFF]
      { State.reset with sp := 0x23FE }))) (fun t => (t.sp, t.pc, [t.flags.s, t.flags.z, t.flags.p, t.flags.cy,
      t.flags.ac], t.cycle)) = some (0x2400, 0x0101, [true, true, true, true, true], 10) := by decide

theorem test_V40_22_popH :
    after (start 0x0100 [0xE1] (placeBytes 0x0000 [0xAB] (placeBytes 0x3FFF [0xCD]
      { State.reset with sp := 0xFFFF }))) (fun t => (t.h, t.l, t.sp, t.pc, t.cycle)) = some (0xAB, 0xCD,
      0x0001, 0x0101, 10) := by decide

theorem test_V40_23_sphl :
    after (start 0x0100 [0xF9]
      { State.reset with h := 0x23, l := 0x00, params := { Params.default with admitUnlisted := true } }) (fun t
      => (t.sp, t.pc, t.cycle)) = some (0x2300, 0x0101, 5) := by decide

theorem test_V41_1_addB :
    after (start 0x0100 [0x80] { State.reset with a := 0x3A, b := 0xC6 }) (fun t => (t.a, t.pc, [t.flags.z,
      t.flags.p, t.flags.cy], t.cycle)) = some (0x00, 0x0101, [true, true, true], 4) := by decide

theorem test_V41_4_adi :
    after (start 0x0100 [0xC6, 0x00]
      { State.reset with a := 0x00, flags := { State.reset.flags with cy := true } }) (fun t => (t.pc,
      [t.flags.z, t.flags.p, t.flags.cy], t.cycle)) = some (0x0102, [true, true, false], 7) := by decide

theorem test_V41_5_adcC :
    after (start 0x0100 [0x89]
      { State.reset with a := 0xFF, c := 0x00, flags := { State.reset.flags with cy := true } }) (fun t => (t.a,
      t.pc, [t.flags.z, t.flags.p], t.cycle)) = some (0x00, 0x0101, [true, true], 4) := by decide

theorem test_V41_6_aci :
    after (start 0x0100 [0xCE, 0x7F]
      { State.reset with a := 0x00, flags := { State.reset.flags with cy := true } }) (fun t => (t.a, t.pc,
      [t.flags.s, t.flags.cy], t.cycle)) = some (0x80, 0x0102, [true, false], 7) := by decide

theorem test_V41_7_addM :
    after (start 0x0100 [0x86] (placeBytes 0x2000 [0x10] { State.reset with a := 0xF0, h := 0x20, l := 0x00 }))
      (fun t => (t.a, t.pc, [t.flags.z, t.flags.p, t.flags.cy], t.cycle)) = some (0x00, 0x0101, [true, true,
      true], 7) := by decide

theorem test_V41_8_subB :
    after (start 0x0100 [0x90] { State.reset with a := 0x00, b := 0x01 }) (fun t => (t.a, t.pc, [t.flags.s,
      t.flags.p, t.flags.cy], t.cycle)) = some (0xFF, 0x0101, [true, true, true], 4) := by decide

theorem test_V41_10_sui :
    after (start 0x0100 [0xD6, 0x01] { State.reset with a := 0x01 }) (fun t => (t.a, t.pc, [t.flags.z,
      t.flags.p], t.cycle)) = some (0x00, 0x0102, [true, true], 7) := by decide

theorem test_V41_11_sbbB :
    after (start 0x0100 [0x98]
      { State.reset with a := 0x00, b := 0xFF, flags := { State.reset.flags with cy := true } }) (fun t =>
      (t.pc, [t.flags.z, t.flags.p], t.cycle)) = some (0x0101, [true, true], 4) := by decide

theorem test_V41_12_sbbA :
    after (start 0x0100 [0x9F] { State.reset with a := 0x42, flags := { State.reset.flags with cy := true } })
      (fun t => (t.a, t.pc, [t.flags.s, t.flags.p], t.cycle)) = some (0xFF, 0x0101, [true, true], 4) := by decide

theorem test_V41_13_sbi :
    after (start 0x0100 [0xDE, 0x00]
      { State.reset with a := 0x00, flags := { State.reset.flags with cy := true } }) (fun t => (t.a, t.pc,
      [t.flags.s, t.flags.p], t.cycle)) = some (0xFF, 0x0102, [true, true], 7) := by decide

theorem test_V41_14_ani :
    after (start 0x0100 [0xE6, 0x0F]
      { State.reset with a := 0xF0, flags := { State.reset.flags with cy := true } }) (fun t => (t.a, t.pc,
      [t.flags.z, t.flags.p, t.flags.cy], t.cycle)) = some (0x00, 0x0102, [true, true, false], 7) := by decide

theorem test_V41_15_anaM :
    after (start 0x0100 [0xA6] (placeBytes 0x2000 [0x81] { State.reset with a := 0xFF, h := 0x20, l := 0x00 }))
      (fun t => (t.a, t.pc, [t.flags.s, t.flags.p], t.cycle)) = some (0x81, 0x0101, [true, true], 7) := by decide

theorem test_V41_16_xraA :
    after (start 0x0100 [0xAF] { State.reset with a := 0x5A, flags := { State.reset.flags with cy := true } })
      (fun t => (t.a, t.pc, [t.flags.z, t.flags.p, t.flags.cy], t.cycle)) = some (0x00, 0x0101, [true, true,
      false], 4) := by decide

theorem test_V41_17_xri :
    after (start 0x0100 [0xEE, 0xFF] { State.reset with a := 0x0F }) (fun t => (t.a, t.pc, [t.flags.s,
      t.flags.p], t.cycle)) = some (0xF0, 0x0102, [true, true], 7) := by decide

theorem test_V41_18_oraB :
    after (start 0x0100 [0xB0] { State.reset with a := 0x01, b := 0x02 }) (fun t => (t.a, t.pc, [t.flags.p],
      t.cycle)) = some (0x03, 0x0101, [true], 4) := by decide

theorem test_V41_19_ori :
    after (start 0x0100 [0xF6, 0x80] { State.reset with a := 0x00 }) (fun t => (t.a, t.pc, [t.flags.s],
      t.cycle)) = some (0x80, 0x0102, [true], 7) := by decide

theorem test_V41_20_cpi :
    after (start 0x0100 [0xFE, 0x20] { State.reset with a := 0x10 }) (fun t => (t.pc, [t.flags.s, t.flags.p,
      t.flags.cy], t.cycle)) = some (0x0102, [true, true, true], 7) := by decide

theorem test_V41_21_cpi :
    after (start 0x0100 [0xFE, 0x20] { State.reset with a := 0x20 }) (fun t => (t.pc, [t.flags.z, t.flags.p],
      t.cycle)) = some (0x0102, [true, true], 7) := by decide

theorem test_V41_22_cmpA :
    after (start 0x0100 [0xBF] { State.reset with a := 0x80 }) (fun t => (t.pc, [t.flags.z, t.flags.p],
      t.cycle)) = some (0x0101, [true, true], 4) := by decide

theorem test_V41_23_cmpM :
    after (start 0x0100 [0xBE] (placeBytes 0x2000 [0x06] { State.reset with a := 0x05, h := 0x20, l := 0x00 }))
      (fun t => (t.pc, [t.flags.s, t.flags.p, t.flags.cy], t.cycle)) = some (0x0101, [true, true, true], 7) := by decide

theorem test_V41_24_inrA :
    after (start 0x0100 [0x3C] { State.reset with a := 0xFF, flags := { State.reset.flags with cy := false } })
      (fun t => (t.a, t.pc, [t.flags.z, t.flags.p], t.cycle)) = some (0x00, 0x0101, [true, true], 5) := by decide

theorem test_V41_26_dcrC :
    after (start 0x0100 [0x0D] { State.reset with c := 0x00, flags := { State.reset.flags with cy := false } })
      (fun t => (t.c, t.pc, [t.flags.s, t.flags.p], t.cycle)) = some (0xFF, 0x0101, [true, true], 5) := by decide

theorem test_V41_28_inrM :
    after (start 0x0100 [0x34] (placeBytes 0x2000 [0xFF] { State.reset with h := 0x20, l := 0x00 })) (fun t =>
      (t.pc, [t.flags.z, t.flags.p], t.cycle, [memRead 0x2000 t])) = some (0x0101, [true, true], 10, [0x00]) := by decide

theorem test_V41_29_dcrM :
    after (start 0x0100 [0x35] (placeBytes 0x2000 [0x00] { State.reset with h := 0x20, l := 0x00 })) (fun t =>
      (t.pc, [t.flags.s, t.flags.p], t.cycle, [memRead 0x2000 t])) = some (0x0101, [true, true], 10, [0xFF]) := by decide

theorem test_V41_30_inxSp :
    after (start 0x0100 [0x33] { State.reset with sp := 0xFFFF, flags := { State.reset.flags with z := true } })
      (fun t => (t.sp, t.pc, t.cycle)) = some (0x0000, 0x0101, 5) := by decide

theorem test_V41_31_dcxB :
    after (start 0x0100 [0x0B] { State.reset with b := 0x00, c := 0x00 }) (fun t => (t.b, t.c, t.pc, t.cycle)) =
      some (0xFF, 0xFF, 0x0101, 5) := by decide

theorem test_V41_33_dadD :
    after (start 0x0100 [0x19]
      { State.reset with h := 0xFF, l := 0xFF, d := 0x00, e := 0x01, flags := { State.reset.flags with z := false, s := true } })
      (fun t => (t.h, t.l, t.pc, [t.flags.cy], t.cycle)) = some (0x00, 0x00, 0x0101, [true], 10) := by decide

theorem test_V41_34_dadH :
    after (start 0x0100 [0x29]
      { State.reset with h := 0x80, l := 0x00, flags := { State.reset.flags with cy := false } }) (fun t =>
      (t.h, t.pc, [t.flags.cy], t.cycle)) = some (0x00, 0x0101, [true], 10) := by decide

theorem test_V41_36_cma :
    after (start 0x0100 [0x2F] { State.reset with a := 0x51 }) (fun t => (t.a, t.pc, t.cycle)) = some (0xAE,
      0x0101, 4) := by decide

theorem test_V41_37_stc :
    after (start 0x0100 [0x37] { State.reset with flags := { State.reset.flags with cy := false } }) (fun t =>
      (t.pc, [t.flags.cy], t.cycle)) = some (0x0101, [true], 4) := by decide

theorem test_V41_38_cmc :
    after (start 0x0100 [0x3F]
      { State.reset with flags := { State.reset.flags with cy := true }, params := { Params.default with admitUnlisted := true } })
      (fun t => (t.pc, [t.flags.cy], t.cycle)) = some (0x0101, [false], 4) := by decide

theorem test_V41_40_daa :
    after (start 0x0100 [0x27] { State.reset with a := 0x9A, flags := { State.reset.flags with cy := false } })
      (fun t => (t.pc, t.cycle)) = some (0x0101, 4) := by decide

theorem test_V41_41_rlc :
    after (start 0x0100 [0x07] { State.reset with a := 0x80 }) (fun t => (t.a, t.pc, [t.flags.cy], t.cycle)) =
      some (0x01, 0x0101, [true], 4) := by decide

theorem test_V41_43_rrc :
    after (start 0x0100 [0x0F] { State.reset with a := 0x01 }) (fun t => (t.a, t.pc, [t.flags.cy], t.cycle)) =
      some (0x80, 0x0101, [true], 4) := by decide

theorem test_V41_44_ral :
    after (start 0x0100 [0x17] { State.reset with a := 0x80, flags := { State.reset.flags with cy := false } })
      (fun t => (t.a, t.pc, [t.flags.cy], t.cycle)) = some (0x00, 0x0101, [true], 4) := by decide

theorem test_V41_46_rar :
    after (start 0x0100 [0x1F] { State.reset with a := 0x01, flags := { State.reset.flags with cy := false } })
      (fun t => (t.a, t.pc, [t.flags.cy], t.cycle)) = some (0x00, 0x0101, [true], 4) := by decide

theorem test_V41_48_adcM :
    after (start 0x0100 [0x8E] (placeBytes 0x2000 [0x00]
      { State.reset with a := 0x7F, h := 0x20, l := 0x00, flags := { State.reset.flags with cy := true } }))
      (fun t => (t.a, t.pc, [t.flags.s, t.flags.cy], t.cycle)) = some (0x80, 0x0101, [true, false], 7) := by decide

theorem test_V41_49_subM :
    after (start 0x0100 [0x96] (placeBytes 0x2000 [0x10] { State.reset with a := 0x10, h := 0x20, l := 0x00 }))
      (fun t => (t.a, t.pc, [t.flags.z, t.flags.p], t.cycle)) = some (0x00, 0x0101, [true, true], 7) := by decide

theorem test_V41_50_sbbM :
    after (start 0x0100 [0x9E] (placeBytes 0x2000 [0x0F]
      { State.reset with a := 0x10, h := 0x20, l := 0x00, flags := { State.reset.flags with cy := true } }))
      (fun t => (t.a, t.pc, [t.flags.z, t.flags.p, t.flags.cy], t.cycle)) = some (0x00, 0x0101, [true, true,
      false], 7) := by decide

theorem test_V41_51_anaC :
    after (start 0x0100 [0xA1]
      { State.reset with a := 0x3C, c := 0x0F, flags := { State.reset.flags with cy := true } }) (fun t => (t.a,
      t.pc, [t.flags.p, t.flags.cy], t.cycle)) = some (0x0C, 0x0101, [true, false], 4) := by decide

theorem test_V41_52_xraM :
    after (start 0x0100 [0xAE] (placeBytes 0x2000 [0xFF] { State.reset with a := 0xFF, h := 0x20, l := 0x00 }))
      (fun t => (t.a, t.pc, [t.flags.z, t.flags.p], t.cycle)) = some (0x00, 0x0101, [true, true], 7) := by decide

theorem test_V41_53_oraM :
    after (start 0x0100 [0xB6] (placeBytes 0x2000 [0x00]
      { State.reset with a := 0x00, h := 0x20, l := 0x00, flags := { State.reset.flags with s := true, cy := true } }))
      (fun t => (t.pc, [t.flags.s, t.flags.z, t.flags.p, t.flags.cy], t.cycle)) = some (0x0101, [false, true,
      true, false], 7) := by decide

theorem test_V42_1_jmp :
    after (start 0x0100 [0xC3, 0xD4, 0x18] State.reset) (fun t => (t.pc, t.cycle)) = some (0x18D4, 10) := by decide

theorem test_V42_2_jnz :
    after (start 0x0100 [0xC2, 0x0A, 0x00] { State.reset with flags := { State.reset.flags with z := false } })
      (fun t => (t.pc, t.cycle)) = some (0x000A, 10) := by decide

theorem test_V42_3_jnz :
    after (start 0x0100 [0xC2, 0x0A, 0x00] { State.reset with flags := { State.reset.flags with z := true } })
      (fun t => (t.pc, t.cycle)) = some (0x0103, 10) := by decide

theorem test_V42_10_call :
    after (start 0x0007 [0xCD, 0x10, 0x00] { State.reset with sp := 0x23FE }) (fun t => (t.sp, t.pc, t.cycle,
      [memRead 0x23FD t, memRead 0x23FC t])) = some (0x23FC, 0x0010, 17, [0x00, 0x0A]) := by decide

theorem test_V42_12_cc :
    after (start 0x0050 [0xDC, 0x00, 0x01]
      { State.reset with sp := 0x2400, flags := { State.reset.flags with cy := true } }) (fun t => (t.sp, t.pc,
      t.cycle, [memRead 0x23FF t, memRead 0x23FE t])) = some (0x23FE, 0x0100, 17, [0x00, 0x53]) := by decide

theorem test_V42_13_cnz :
    after (start 0x0100 [0xC4, 0x00, 0x01]
      { State.reset with sp := 0x2400, flags := { State.reset.flags with z := true } }) (fun t => (t.pc,
      t.cycle)) = some (0x0103, 11) := by decide

theorem test_V42_14_ret :
    after (start 0x0100 [0xC9] (placeBytes 0x23FC [0x0A, 0x00] { State.reset with sp := 0x23FC })) (fun t =>
      (t.sp, t.pc, t.cycle)) = some (0x23FE, 0x000A, 10) := by decide

theorem test_V42_15_rz :
    after (start 0x0100 [0xC8] (placeBytes 0x23FC [0x0A, 0x00]
      { State.reset with sp := 0x23FC, flags := { State.reset.flags with z := true } })) (fun t => (t.sp, t.pc,
      t.cycle)) = some (0x23FE, 0x000A, 11) := by decide

theorem test_V42_16_rz :
    after (start 0x0100 [0xC8]
      { State.reset with sp := 0x23FC, flags := { State.reset.flags with z := false } }) (fun t => (t.pc,
      t.cycle)) = some (0x0101, 5) := by decide

theorem test_V42_17_pchl :
    after (start 0x0100 [0xE9] { State.reset with h := 0x12, l := 0x34 }) (fun t => (t.pc, t.cycle)) = some
      (0x1234, 5) := by decide

theorem test_V42_18_rst1 :
    after (start 0x0100 [0xCF] { State.reset with sp := 0x2400 }) (fun t => (t.sp, t.pc, t.cycle, [memRead
      0x23FF t, memRead 0x23FE t])) = some (0x23FE, 0x0008, 11, [0x01, 0x01]) := by decide

theorem test_V43_1_nop :
    after (start 0x0100 [0x00] State.reset) (fun t => (t.pc, t.cycle)) = some (0x0101, 4) := by decide

theorem test_V43_2_ei :
    after (start 0x0100 [0xFB] State.reset) (fun t => (t.pc, t.cycle, t.interruptsEnabled)) = some (0x0101, 4,
      true) := by decide

theorem test_V43_3_di :
    after (start 0x0100 [0xF3]
      { State.reset with interruptsEnabled := true, params := { Params.default with admitUnlisted := true } })
      (fun t => (t.pc, t.cycle, t.interruptsEnabled)) = some (0x0101, 4, false) := by decide

theorem test_V43_4_di :
    after (start 0x0100 [0xF3]
      { State.reset with icount := 5, params := { Params.default with admitUnlisted := false } }) (fun t =>
      (t.pc, t.cycle, t.halted)) = some (0x0100, 0, some (.unknownOpcode 0xF3 5 0x0100)) := by decide

theorem test_V43_5_hlt :
    after (start 0x0100 [0x76] { State.reset with icount := 7, cycle := 100 }) (fun t => (t.pc, t.cycle,
      t.halted)) = some (0x0100, 100, some (.unknownOpcode 0x76 7 0x0100)) := by decide

theorem test_V44_1_outPort :
    after (start 0x0100 [0xD3, 0x04] { State.reset with a := 0xAB, shifter := ⟨0x00, 0x00, 0⟩ }) (fun t =>
      (t.pc, t.cycle, t.shifter)) = some (0x0102, 10, ⟨0xAB, 0x00, 0⟩) := by decide

theorem test_V44_3_outPort :
    after (start 0x0100 [0xD3, 0x02] { State.reset with a := 0xFB }) (fun t => (t.pc, t.cycle, t.shifter)) =
      some (0x0102, 10, ⟨0x00, 0x00, 3⟩) := by decide

theorem test_V44_4_inPort :
    after (start 0x0100 [0xDB, 0x03] { State.reset with shifter := ⟨0xCD, 0xAB, 3⟩ }) (fun t => (t.a, t.pc,
      t.cycle)) = some (0x6D, 0x0102, 10) := by decide

theorem test_V44_7_inPort :
    after (start 0x0100 [0xDB, 0x01] { State.reset with params := { Params.default with in1Bit3 := false } })
      (fun t => (t.a, t.pc, t.cycle)) = some (0x01, 0x0102, 10) := by decide

theorem test_V44_10_inPort :
    after (start 0x0100 [0xDB, 0x02] State.reset) (fun t => (t.a, t.pc, t.cycle)) = some (0x00, 0x0102, 10) := by decide

theorem test_V44_11_outPort :
    after (start 0x0100 [0xD3, 0x03] { State.reset with a := 0x1F }) (fun t => (t.pc, t.cycle, t.port3)) = some
      (0x0102, 10, 0x1F) := by decide

theorem test_V44_12_outPort :
    after (start 0x0100 [0xD3, 0x05] { State.reset with a := 0xE3 }) (fun t => (t.pc, t.cycle, t.port5)) = some
      (0x0102, 10, 0xE3) := by decide

theorem test_V44_13_outPort :
    after (start 0x0100 [0xD3, 0x06] { State.reset with a := 0xFF }) (fun t => (t.pc, t.cycle)) = some (0x0102,
      10) := by decide

theorem test_V44_14_outPort :
    after (start 0x0100 [0xD3, 0x01] { State.reset with a := 0xFF }) (fun t => (t.pc, t.cycle)) = some (0x0102,
      10) := by decide

theorem test_V44_15_outPort :
    after (start 0x0100 [0xD3, 0x07] { State.reset with a := 0x12, icount := 3 }) (fun t => (t.pc, t.cycle,
      t.halted)) = some (0x0100, 0, some (.unknownOutPort 0x07 3 0x0100)) := by decide

theorem test_V44_16_inPort :
    after (start 0x0100 [0xDB, 0x00] { State.reset with icount := 3 }) (fun t => (t.pc, t.cycle, t.halted)) =
      some (0x0100, 0, some (.unknownInPort 0x00 3 0x0100)) := by decide

theorem test_V60_1_nop :
    after (start 0x0100 [0x00] { State.reset with sp := 0x2400, cycle := 16666, interruptsEnabled := true })
      (fun t => (t.sp, t.pc, t.nextInterruptOp, [memRead 0x23FF t, memRead 0x23FE t], [t.cycle, t.icount,
      t.nextWakeup])) = some (0x23FE, 0x0009, 0xD7, [0x01, 0x00], [16681, 2, 33332]) := by decide

theorem test_V60_2_nop :
    after (start 0x0100 [0x00] { State.reset with cycle := 16666, interruptsEnabled := false }) (fun t => (t.pc,
      t.nextInterruptOp, [t.cycle, t.icount, t.nextWakeup])) = some (0x0101, 0xD7, [16670, 1, 33332]) := by decide

theorem test_V60_3_nop :
    after (start 0x0100 [0x00] { State.reset with cycle := 16665, interruptsEnabled := true }) (fun t => (t.pc,
      [t.cycle, t.icount])) = some (0x0101, [16669, 1]) := by decide

theorem test_V60_4_nop :
    after (start 0x0100 [0x00]
      { State.reset with sp := 0x2400, cycle := 16670, interruptsEnabled := true, params := { Params.default with intaClearsIe := true } })
      (fun t => ([t.sp, t.pc], t.interruptsEnabled, t.nextInterruptOp, [memRead 0x23FF t, memRead 0x23FE t],
      [t.cycle, t.icount, t.nextWakeup])) = some ([0x23FE, 0x0009], false, 0xD7, [0x01, 0x00], [16685, 2,
      33332]) := by decide

theorem test_V60_5_nop :
    after (start 0x0100 [0x00]
      { State.reset with sp := 0x2400, nextWakeup := 33332, cycle := 33340, interruptsEnabled := true, nextInterruptOp := 0xD7 })
      (fun t => (t.sp, t.pc, t.nextInterruptOp, [memRead 0x23FF t, memRead 0x23FE t], [t.cycle, t.icount,
      t.nextWakeup])) = some (0x23FE, 0x0011, 0xCF, [0x01, 0x00], [33355, 2, 49998]) := by decide

theorem test_V60_6_nop :
    after (start 0x0100 [0x00] (placeBytes 0x0008 [0xD3, 0x07]
      { State.reset with sp := 0x2400, cycle := 16666, icount := 9, interruptsEnabled := true })) (fun t =>
      ([t.sp, t.pc], t.nextInterruptOp, t.halted, [t.cycle, t.icount, t.nextWakeup])) = some ([0x23FE, 0x0008],
      0xD7, some (.unknownOutPort 0x07 10 0x0008), [16677, 10, 33332]) := by decide

/-! ## Host views -/

/-- The host hears a sound for each bit that went from 0 to 1 (R251). -/
theorem test_soundsRaised : risingEdges 0b00000101 0b00001100 = 0b00001000 := by decide

/-! ## Hypotheses that can be met -/

/-- A state with bytes in memory and interrupts enabled, about to take RST 1. -/
def dueState : State :=
  start 0x1234 [0xC9] { State.reset with sp := 0x2400, interruptsEnabled := true, cycle := 16666 }

/-- The same, about to take RST 2, with SP at the bottom of the address space and acceptance clearing the enable. -/
def dueState2 : State :=
  start 0xFFFF [0x76] { State.reset with
    sp := 0x0001, interruptsEnabled := true, cycle := 33349, nextWakeup := 33332, nextInterruptOp := 0xD7,
    params := { Params.default with intaClearsIe := true } }

theorem test_witness_LaunchMemory :
    (List.replicate 2048 (0x5A : Byte)).length = 2048 ∧ 0 < 16384 ∧ 8191 < 8192 ∧ 8192 < 16384 ∧ ¬ 8192 < 8192 ∧
      16383 < 16384 := by
  refine ⟨List.length_replicate, ?_⟩
  decide

theorem test_witness_StepKeepsInvariant :
    (State.reset.Inv ∧ after State.reset (fun t => t.halted) = some none) ∧
    (dueState.Inv ∧ after dueState (fun t => t.halted) = some none) ∧
    (dueState2.Inv ∧ (after dueState2 (fun t => t.halted)).isSome = true) := by decide

theorem test_witness_StepKeepsSchedulerClock :
    (dueState.SchedulerInv ∧ dueState.cycle.toNat < 2 ^ 63 ∧ (after dueState (fun t => t.pc)).isSome = true) ∧
    (dueState2.SchedulerInv ∧ dueState2.cycle.toNat < 2 ^ 63 ∧ (after dueState2 (fun t => t.pc)).isSome = true) ∧
    State.reset.SchedulerInv := by decide

theorem test_witness_ReachableStatesMeetInvariant : Reachable Params.default [0xFB] (State.launch Params.default [0xFB]) :=
  .launch

theorem test_witness_ButtonsReachOnlyInPort1 :
    fetched (schedulerPhase State.reset) ≠ .inPort 1 ∧ (after State.reset (fun t => t.pc)).isSome = true := by decide

theorem test_witness_EncodeOfDecode : decode [0x01, 0x34, 0x12, 0x76] = .ok (.lxiB 0x1234, [0x76]) := rfl

theorem test_witness_StepRunsDecodedInstruction :
    (State.reset.halted = none ∧ decode [memRead 0 State.reset, memRead 1 State.reset, memRead 2 State.reset] =
      .ok (.nop, [0, 0]) ∧ State.reset.cycle.toNat < State.reset.nextWakeup.toNat) ∧
    (dueState.halted = none ∧
      decode [memRead 8 (schedulerPhase dueState), memRead 9 (schedulerPhase dueState),
        memRead 10 (schedulerPhase dueState)] = .ok (.nop, [0, 0])) :=
  ⟨⟨rfl, rfl, (of_decide_eq_true rfl)⟩, rfl, rfl⟩

theorem test_witness_InterruptEntry :
    (dueState.Inv ∧ injects dueState = true ∧ dueState.nextInterruptOp = 0xCF) ∧
    (dueState2.Inv ∧ injects dueState2 = true ∧ dueState2.nextInterruptOp ≠ 0xCF) := by decide

theorem test_witness_InterruptReturnResumes : dueState.Inv ∧ injects dueState = true := by decide

/-- Each cause of a halt at the edge of its range, and their neighbours that run. -/
theorem test_witness_OnlyListedCausesHalt :
    ([[0x76], [0x36, 0], [0xDB, 0], [0xDB, 4], [0xD3, 0], [0xD3, 7]].map fun bytes =>
      after (start 0 bytes State.reset) (fun t => t.halted.isSome)) = List.replicate 6 (some true) ∧
    ([[0x77], [0x37], [0xDB, 1], [0xDB, 3], [0xD3, 1], [0xD3, 6]].map fun bytes =>
      after (start 0 bytes State.reset) (fun t => t.halted.isSome)) = List.replicate 6 (some false) := by decide

theorem test_witness_HaltDiscardsEnginePhase :
    ([[0xDB, 9], [0xD3, 0], [0xFD]].map fun bytes =>
      after (start 7 bytes State.reset) (fun t => t.halted)) =
    [some (some (.unknownInPort 9 0 7)), some (some (.unknownOutPort 0 0 7)), some (some (.unknownOpcode 0xFD 0 7))] ∧
    ({ State.reset with halted := some (.unknownOpcode 0x76 0 0) } : State).halted = some (.unknownOpcode 0x76 0 0) := by
  decide

theorem test_witness_StepCountsRetirements :
    after State.reset (fun t => t.halted) = some none ∧ injects State.reset = false ∧
    after dueState (fun t => t.halted) = some none ∧ injects dueState = true := by decide

theorem test_witness_EnableAndDisableRules :
    view (exec .ei { State.reset with cycle := 16662 }) (fun t => decide (16666 ≤ t.cycle.toNat)) = some true ∧
    (dueState.params.admitUnlisted = false ∧ dueState.params.intaClearsIe = false ∧
      dueState.interruptsEnabled = true ∧ (after dueState (fun t => t.pc)).isSome = true) := by decide

/-- Canonical memories, empty and not, for the statements about every state with `mem.wf`; SP at and around its wrap. -/
theorem test_witness_MemoryReadWrite :
    State.reset.mem.wf = true ∧ dueState.mem.wf = true ∧ (memWrite 0xFFFF 1 (memWrite 0x4000 2 dueState)).mem.wf = true := by
  decide

theorem test_witness_StackPrimitives :
    ({ dueState with sp := 0 } : State).mem.wf = true ∧ ({ dueState with sp := 1 } : State).mem.wf = true := by decide

theorem test_witness_StoredByteIsFetchedNext :
    dueState.mem.wf = true ∧ (0x5234 : Addr) &&& 0x3FFF = dueState.pc &&& 0x3FFF := by decide

theorem test_witness_PopPsw : ({ dueState with sp := 0, a := 0x5A } : State).mem.wf = true := by decide

theorem test_witness_StackRoundTrips : ({ dueState with sp := 0x4001 } : State).mem.wf = true := by decide

theorem test_witness_UnlistedAdmitted :
    ({ State.reset with params := { Params.default with admitUnlisted := true } } : State).params.admitUnlisted = true :=
  rfl

theorem test_witness_HaltingOpcodesHalt :
    State.reset.params.admitUnlisted = false ∧ (.hlt, 0x76) ∈ haltingOpcodes ∧ (.undocumentedFD, 0xFD) ∈ haltingOpcodes := by
  decide

theorem test_witness_UndefinedPortsHalt :
    ((0 : Byte).toNat < 1 ∧ 3 < (4 : Byte).toNat ∧ 3 < (255 : Byte).toNat ∧ 6 < (7 : Byte).toNat) ∧
    ¬ ((1 : Byte).toNat < 1 ∨ 3 < (3 : Byte).toNat) ∧ ¬ 6 < (6 : Byte).toNat := by decide

theorem test_witness_NopAndEi : (view (exec .ei State.reset) (fun t => t.interruptsEnabled)) = some true := by decide

theorem test_witness_RegisterFrame :
    (view (exec .inrB State.reset) (fun t => t.b)) = some 1 ∧ Reg8.a ∉ writesRegs .inrB ∧ writesSp .inrB = false := by
  decide

theorem test_witness_FlagFrame :
    ([Instr.nop, .rlc, .inrM, .addB, .popPsw].map fun i => (view (exec i State.reset) (fun t => t.pc)).isSome) =
      List.replicate 5 true ∧
    writesFlags .nop = .none ∧ writesFlags .rlc = .cyOnly ∧ writesFlags .inrM = .szpOnly ∧ writesFlags .addB ≠ .all ∧
    writesFlags .popPsw = .all := by decide

theorem test_witness_MemoryFrame :
    (dueState.mem.wf = true ∧ (view (exec (.shld 0x3FFF) dueState) (fun t => t.pc)).isSome = true ∧
      [0x3FFF#16 &&& 0x3FFF, 0x4000#16 &&& 0x3FFF, 0x0001#16 &&& 0x3FFF].Nodup) ∧
    storeAddrs (.shld 0x3FFF) dueState = [0x3FFF, 0x4000] ∧ storeAddrs (.lda 0x2000) dueState = [] :=
  ⟨by decide, rfl, rfl⟩

theorem test_witness_ControlAndDeviceFrame :
    (view (exec .nop State.reset) (fun t => t.pc)).isSome = true ∧ Instr.nop ≠ .ei ∧ Instr.nop ≠ .di ∧
    Instr.nop ≠ .outPort 2 ∧ Instr.nop ≠ .outPort 4 ∧ Instr.nop ≠ .outPort 3 ∧ Instr.nop ≠ .outPort 5 := by decide

end Sys2Proof.Tests
end

section
/-!
SUPPORT. The register file of spec/10_state.md: the two bytes of a 16-bit value as naturals, and the pairs as views
of the registers.
-/

namespace Sys2Proof.Proofs

open Machine Expect

/-- `{hi, lo}` is `hi*256 + lo` (R6). -/
theorem word16_toNat (hi lo : Byte) : (word16 hi lo).toNat = hi.toNat * 256 + lo.toNat := by
  unfold word16
  rw [BitVec.toNat_append, ← Nat.shiftLeft_add_eq_or_of_lt lo.isLt, Nat.shiftLeft_eq]

/-- `v[15:8]` is the quotient of `v` by 256 (R6). -/
theorem hiByte_eq_byte_div (v : Addr) : hiByte v = byte (v.toNat / 256) := by
  apply BitVec.eq_of_toNat_eq
  simp [hiByte, byte, BitVec.extractLsb'_toNat, Nat.shiftRight_eq_div_pow]

/-- `v[7:0]` is the remainder of `v` by 256 (R6). -/
theorem loByte_eq_byte_mod (v : Addr) : loByte v = byte (v.toNat % 256) := by
  apply BitVec.eq_of_toNat_eq
  simp [loByte, byte, BitVec.extractLsb'_toNat]

/-- Settles O23: the fields touched are those of the definitions; what is left is the arithmetic of the two bytes,
`word16_toNat` for a read of a pair, `hiByte_eq_byte_div` and `loByte_eq_byte_mod` for a write. -/
theorem registerAndPairViews : Obligations.RegisterAndPairViews := by
  refine ⟨fun s v => ⟨rfl, rfl, rfl, rfl, rfl, rfl, rfl⟩, fun s => ⟨rfl, rfl, rfl, rfl, rfl, rfl, rfl⟩, ?reads, ?writes⟩
  case reads =>
    exact fun s => ⟨word16_toNat s.b s.c, word16_toNat s.d s.e, word16_toNat s.h s.l, rfl⟩
  case writes =>
    intro s v
    simp only [← hiByte_eq_byte_div, ← loByte_eq_byte_mod]
    exact ⟨rfl, rfl, rfl, rfl⟩

end Sys2Proof.Proofs
end

section
/-!
SUPPORT. The memory and the stack of spec/20_memory.md: a cell number as a remainder, the launch memory, and the
stack primitives with SP-2 and SP+2 in one step.
-/

namespace Sys2Proof.Proofs

open Machine Expect

/-! The cell an address reaches -/

/-- The mask keeps the low 14 bits (R52). -/
theorem cellOf_eq_mod (p : Addr) : cellOf p = p.toNat % 16384 := by
  have h : cellOf p = p.toNat &&& (2 ^ 14 - 1) := BitVec.toNat_and p Config.addrMask
  rw [h, Nat.and_two_pow_sub_one_eq_mod]

/-- Addresses a multiple of the memory size apart are aliases (R52). -/
theorem cellOf_add_multiple (p : Addr) {d : Addr} (hd : d.toNat % 16384 = 0) : cellOf (p + d) = cellOf p := by
  rw [cellOf_eq_mod, cellOf_eq_mod, BitVec.toNat_add]
  omega

theorem cellOf_ofNat {k : Nat} (hk : k < 16384) : cellOf (BitVec.ofNat 16 k) = k := by
  rw [cellOf_eq_mod, BitVec.toNat_ofNat]
  omega

/-- Successive addresses reach two cells, at the wrap of the memory and of the address space too. -/
theorem cellOf_add_one_ne (p : Addr) : cellOf (p + 1) ≠ cellOf p := by
  rw [cellOf_eq_mod, cellOf_eq_mod]
  bv_omega

/-- A byte read depends on the cell alone. -/
theorem memRead_eq_of_cellOf_eq {p q : Addr} (h : cellOf p = cellOf q) (s : State) : memRead p s = memRead q s :=
  congrArg s.mem.read h

theorem memRead_add_multiple (p : Addr) {d : Addr} (hd : d.toNat % 16384 = 0) (s : State) :
    memRead (p + d) s = memRead p s :=
  memRead_eq_of_cellOf_eq (cellOf_add_multiple p hd) s

/-! The launch memory -/

/-- Cell `a + i` of an image loaded at `a` is the image's byte `i`, and unlisted after its end. -/
theorem read_ofImage {a : Nat} (i : Nat) {bytes : List Byte} (h : a + bytes.length ≤ Config.memSize) :
    (Memory.ofImage a bytes).read (a + i) = bytes.getD i Config.unlistedByte := by
  induction bytes generalizing a i with
  | nil => rfl
  | cons v vs ih =>
    simp only [List.length_cons] at h
    have hvs : a + 1 + vs.length ≤ Config.memSize := by omega
    rw [Memory.ofImage, Memory.read_cons (Memory.wfFrom_ofImage hvs)]
    cases i with
    | zero => exact if_pos rfl
    | succ i =>
      rw [if_neg (by omega), ← Nat.add_assoc, Nat.add_right_comm]
      exact ih i hvs

/-- The launch memory is the first 8192 bytes of the ROM image, and zero after them (R58). -/
theorem memRead_launch (p : Params) (rom : List Byte) {k : Nat} (hk : k < 16384) :
    memRead (BitVec.ofNat 16 k) (State.launch p rom) = (rom.take Config.romSize).getD k 0 := by
  have hfits : 0 + (rom.take Config.romSize).length ≤ Config.memSize := by
    have := List.length_take_le Config.romSize rom
    simp only [Config.romSize, Config.memSize] at this ⊢
    omega
  have hread := read_ofImage k hfits
  rw [Nat.zero_add] at hread
  rw [memRead, cellOf_ofNat hk]
  exact hread

/-- Settles O2: an image of four 2048-byte files is loaded whole, and past its end `memRead_launch` gives zero. -/
theorem launchMemory : Obligations.LaunchMemory := by
  intro p fileH fileG fileF fileE hH hG hF hE rom k hk
  have hlen : rom.length = 8192 := by simp only [rom, List.length_append, hH, hG, hF, hE]
  have hwhole : rom.take Config.romSize = rom := List.take_of_length_le hlen.le
  rw [memRead_launch p rom hk, hwhole]
  split_ifs with hrom
  · rfl
  · exact List.getD_eq_default _ _ (by omega)

/-- Settles O21: the mask is `cellOf`, and the laws of a read and a write are stated through it. -/
theorem memoryReadWrite : Obligations.MemoryReadWrite := by
  intro s a b v hwf
  refine ⟨rfl, memRead_add_multiple a rfl s, memRead_add_multiple a rfl s, memRead_add_multiple a rfl s, ?written,
    memWrite_wf hwf b v⟩
  case written =>
    have hcell : cellOf b = cellOf a ↔ a &&& 0x3FFF = b &&& 0x3FFF := eq_comm.trans cellOf_eq_iff
    simp only [memRead_memWrite hwf, hcell]

/-! The stack primitives -/

/-- `Push16` in the order of R56. -/
theorem push16_eq_pushed (v : Addr) (s : State) : push16 v s = pushed v s := by
  have hsp : s.sp - 1 - 1 = s.sp - 2 := BitVec.sub_sub _ _ _
  rw [push16_eq, hsp, pushed]

/-- `Pop16` in the order of R56. -/
theorem pop16_eq_stackTop (s : State) : pop16 s = (stackTop s, { s with sp := s.sp + 2 }) := by
  have hsp : s.sp + 1 + 1 = s.sp + 2 := BitVec.add_assoc _ _ _
  rw [pop16_eq, hsp, memRead16, stackTop]

theorem sub_two_add_one (p : Addr) : p - 2 + 1 = p - 1 := by bv_omega

/-- Both bytes of a push stand where R56 puts them, for the low byte does not reach the high byte's cell. -/
theorem memRead_pushed {s : State} (hwf : s.mem.wf = true) (v : Addr) :
    memRead (s.sp - 1) (pushed v s) = hiByte v ∧ memRead (s.sp - 2) (pushed v s) = loByte v := by
  have hcells : cellOf (s.sp - 2) ≠ cellOf (s.sp - 1) := by
    rw [← sub_two_add_one]
    exact (cellOf_add_one_ne _).symm
  have hbytes (p : Addr) :
      memRead p (pushed v s) = memRead p (memWrite (s.sp - 2) (loByte v) (memWrite (s.sp - 1) (hiByte v) s)) := rfl
  have hwf' := memWrite_wf hwf (s.sp - 1) (hiByte v)
  constructor
  · rw [hbytes, memRead_memWrite hwf', if_neg hcells, memRead_memWrite hwf, if_pos rfl]
  · rw [hbytes, memRead_memWrite hwf', if_pos rfl]

/-- What is pushed is on top of the stack. -/
theorem stackTop_pushed {s : State} (hwf : s.mem.wf = true) (v : Addr) : stackTop (pushed v s) = v := by
  obtain ⟨hhi, hlo⟩ := memRead_pushed hwf v
  have hsp : (pushed v s).sp = s.sp - 2 := rfl
  rw [stackTop, hsp, sub_two_add_one, hhi, hlo, word16_hi_lo]

/-- Settles O22: the primitives are `pushed` and `stackTop`, and `stackTop_pushed` makes the one invert the other. -/
theorem stackPrimitives : Obligations.StackPrimitives := by
  refine ⟨fun s v => push16_eq_pushed v s, pop16_eq_stackTop, fun s v hwf => ?inverse⟩
  case inverse =>
    obtain ⟨hhi, hlo⟩ := memRead_pushed hwf v
    rw [pop16_eq_stackTop, push16_eq_pushed]
    exact ⟨stackTop_pushed hwf v, BitVec.sub_add_cancel s.sp 2, hhi, hlo, rfl⟩

end Sys2Proof.Proofs
end

section
/-!
SUPPORT. The decoder read by opcode (spec/30_encoding.md): what is decoded has the opcode byte it was decoded from, so
its length (R83) and its tier (R77 to R79) are the opcode's, whatever the operand bytes. Then what an instruction halts
with (spec/60_exceptions.md R272), by the opcode and the byte after it.
-/

namespace Sys2Proof.Proofs

open Machine Expect

/-! What an opcode byte says of the instruction -/

theorem exists_eq_byte (v : Byte) : ∃ n < 256, v = byte n :=
  ⟨v.toNat, v.isLt, (BitVec.ofNat_toNat 8 v).symm⟩

/-- The map of R80 gives an opcode byte to the instruction whose bit fields make that byte: each of the 256 bytes is
evaluated, with the operand bytes left open. -/
theorem opcode_decodeBytes (op b1 b2 : Byte) : opcode (decodeBytes op b1 b2) = op := by
  obtain ⟨n, hn, rfl⟩ := exists_eq_byte op
  interval_cases n <;> rfl

theorem length_encode (i : Instr) : (encode i).length = opcodeLength (opcode i) := by
  cases i <;> rfl

/-- Settles O11: the length is the one of the instruction's own opcode, and the decoder keeps the opcode byte. -/
theorem lengthsOfOpcodes : Obligations.LengthsOfOpcodes := by
  intro op b1 b2
  rw [length_encode, opcode_decodeBytes]
  simp only [opcodeLength, List.contains_iff_mem]
  rfl

/-- The opcodes of R78. -/
def unlistedOpcodes : List Byte := [0x36, 0x3F, 0xF3, 0xF9]

/-- The partition of the opcodes (R77, R78, R79). -/
def tierOfOpcode (op : Byte) : Tier :=
  if op ∈ haltingOpcodes.map (fun x => x.2) then .halting else if op ∈ unlistedOpcodes then .unlisted else .listed

theorem tier_eq_tierOfOpcode (i : Instr) : i.tier = tierOfOpcode (opcode i) := by
  cases i <;> rfl

theorem tier_decodeBytes (op b1 b2 : Byte) : (decodeBytes op b1 b2).tier = tierOfOpcode op := by
  rw [tier_eq_tierOfOpcode, opcode_decodeBytes]

theorem decodeBytes_ne_inPort {op : Byte} (h : op ≠ 0xDB) (b1 b2 p : Byte) : decodeBytes op b1 b2 ≠ .inPort p :=
  fun hdec => h ((opcode_decodeBytes op b1 b2).symm.trans (congrArg opcode hdec))

theorem decodeBytes_ne_outPort {op : Byte} (h : op ≠ 0xD3) (b1 b2 p : Byte) : decodeBytes op b1 b2 ≠ .outPort p :=
  fun hdec => h ((opcode_decodeBytes op b1 b2).symm.trans (congrArg opcode hdec))

/-! What an instruction halts with -/

/-- A meaning answers a next state in either case: without a cause it leaves `halted` alone, and with one it is the halt
raised on the state it started from (R271). -/
def Answers (s : State) (o : Out) : Option HaltReason → Prop
  | none => ∃ t, o = .next t ∧ t.halted = s.halted
  | some reason => o = raiseHalt reason s

/-- After a running state, `halted` is the cause. -/
theorem Answers.next_halted {s : State} {o : Out} {cause : Option HaltReason} (h : Answers s o cause)
    (hs : s.halted = none) : ∃ t, o = .next t ∧ t.halted = cause := by
  cases cause with
  | none =>
    obtain ⟨t, ho, ht⟩ := h
    exact ⟨t, ho, ht.trans hs⟩
  | some reason => exact ⟨_, h, rfl⟩

/-- What IN halts with (R250). -/
def inPortCause (p : Byte) (s : State) : Option HaltReason :=
  if p ∈ [1#8, 2, 3] then none else some (.unknownInPort p s.icount s.pc)

/-- What OUT halts with (R250). -/
def outPortCause (p : Byte) (s : State) : Option HaltReason :=
  if p ∈ [1#8, 2, 3, 4, 5, 6] then none else some (.unknownOutPort p s.icount s.pc)

/-- What an opcode of a tier halts with for want of admission (R74). -/
def admissionCause (tier : Tier) (op : Byte) (s : State) : Option HaltReason :=
  match tier with
  | .listed => none
  | .unlisted => if s.params.admitUnlisted then none else some (.unknownOpcode op s.icount s.pc)
  | .halting => some (.unknownOpcode op s.icount s.pc)

theorem answers_retire {s t : State} (cost : Nat) (ht : t.halted = s.halted) : Answers s (retire cost t) none :=
  ⟨_, rfl, ht⟩

theorem portIn_eq_none_iff (p : Byte) (s : State) : portIn p s = none ↔ p ∉ [1#8, 2, 3] := by
  unfold portIn
  split_ifs <;> simp_all

theorem portOut_eq_none_iff (p v : Byte) (s : State) : portOut p v s = none ↔ p ∉ [1#8, 2, 3, 4, 5, 6] := by
  unfold portOut
  split_ifs <;> simp_all

theorem portOut_halted {p v : Byte} {s t : State} (h : portOut p v s = some t) : t.halted = s.halted := by
  obtain rfl | rfl | rfl | rfl | rfl := portOut_cases h <;> rfl

theorem answers_inputPort (p : Byte) (s : State) : Answers s (inputPort p s) (inPortCause p s) := by
  have hnone := portIn_eq_none_iff p s
  unfold inPortCause
  obtain ⟨v, hv, hrun⟩ | ⟨hp, hhalt⟩ := inputPort_cases p s
  · rw [if_pos (not_not.mp (hnone.not.mp (by simp [hv]))), hrun]
    exact answers_retire 10 rfl
  · rw [if_neg (hnone.mp hp), hhalt]
    rfl

theorem answers_outputPort (p : Byte) (s : State) : Answers s (outputPort p s) (outPortCause p s) := by
  have hnone := portOut_eq_none_iff p s.a (advance 2 s)
  unfold outPortCause outputPort
  split
  next t ht =>
    rw [if_pos (not_not.mp (hnone.not.mp (by simp [ht])))]
    exact answers_retire 10 (by rw [portOut_halted ht, advance_halted])
  next hp =>
    rw [if_neg (hnone.mp hp)]
    rfl

theorem answers_ifUnlistedAdmitted (op : Byte) {s t : State} (ht : t.halted = s.halted) :
    Answers s (ifUnlistedAdmitted op s (.next t)) (admissionCause .unlisted op s) := by
  unfold admissionCause
  obtain ⟨hadmit, hrun⟩ | ⟨hadmit, hhalt⟩ := ifUnlistedAdmitted_cases op s (.next t)
  · rw [hrun, hadmit]
    exact ⟨t, rfl, ht⟩
  · rw [hhalt, hadmit]
    rfl

theorem answers_jumpIf (cond : Cond) (a16 : Addr) (s : State) : Answers s (jumpIf cond a16 s) none := by
  unfold jumpIf
  split <;> exact answers_retire _ rfl

theorem pushPcAndJump_halted (target : Addr) (s : State) : (pushPcAndJump target s).halted = s.halted := by
  simp [pushPcAndJump]

theorem answers_pushPcAndJump (cost : Nat) (target : Addr) (n : Nat) (s : State) :
    Answers s (retire cost (pushPcAndJump target (advance n s))) none :=
  answers_retire cost (by rw [pushPcAndJump_halted, advance_halted])

theorem answers_returnToPopped (cost n : Nat) (s : State) :
    Answers s (retire cost (returnToPopped (advance n s))) none :=
  answers_retire cost (by rw [returnToPopped_halted, advance_halted])

theorem answers_callIf (cond : Cond) (a16 : Addr) (s : State) : Answers s (callIf cond a16 s) none := by
  unfold callIf
  split
  · exact answers_pushPcAndJump 17 a16 3 s
  · exact answers_retire 11 rfl

theorem answers_returnIf (cond : Cond) (s : State) : Answers s (returnIf cond s) none := by
  unfold returnIf
  split
  · exact answers_returnToPopped 11 1 s
  · exact answers_retire 5 rfl

theorem answers_exchangeStackHl (s : State) : Answers s (exchangeStackHl s) none :=
  answers_retire 18 (by rw [writePair_halted, memWrite16_halted, advance_halted])

/-- But for IN and OUT, an instruction halts for want of admission alone. -/
theorem exec_answers_admissionCause {i : Instr} (hin : ∀ p, i ≠ .inPort p) (hout : ∀ p, i ≠ .outPort p)
    (s : State) : Answers s (exec i s) (admissionCause i.tier (opcode i) s) := by
  cases i
  case inPort p => exact absurd rfl (hin p)
  case outPort p => exact absurd rfl (hout p)
  case mviM | cmc | di | sphl => exact answers_ifUnlistedAdmitted _ rfl
  case hlt | undocumented08 | undocumented10 | undocumented18 | undocumented20 | undocumented28 | undocumented30 |
      undocumented38 | undocumentedCB | undocumentedD9 | undocumentedDD | undocumentedED | undocumentedFD => rfl
  case jnz | jz | jnc | jc | jpo | jpe | jp | jm => exact answers_jumpIf _ _ s
  case cnz | cz | cnc | cc | cpo | cpe | cp | cm => exact answers_callIf _ _ s
  case rnz | rz | rnc | rc | rpo | rpe | rp | rm => exact answers_returnIf _ s
  case call | rst0 | rst1 | rst2 | rst3 | rst4 | rst5 | rst6 | rst7 => exact answers_pushPcAndJump _ _ _ s
  case ret => exact answers_returnToPopped 10 1 s
  case xthl => exact answers_exchangeStackHl s
  all_goals exact answers_retire _ rfl

/-- What an opcode and the byte after it halt with (R272). -/
def haltCause (op port : Byte) (s : State) : Option HaltReason :=
  if op = 0xDB then inPortCause port s
  else if op = 0xD3 then outPortCause port s
  else admissionCause (tierOfOpcode op) op s

/-- Every opcode answers a next state, and halts for its cause alone. -/
theorem exec_decodeBytes_answers (op b1 b2 : Byte) (s : State) :
    Answers s (exec (decodeBytes op b1 b2) s) (haltCause op b1 s) := by
  unfold haltCause
  split_ifs with hin hout
  · subst hin
    exact answers_inputPort b1 s
  · subst hout
    exact answers_outputPort b1 s
  · have h := exec_answers_admissionCause (decodeBytes_ne_inPort hin b1 b2) (decodeBytes_ne_outPort hout b1 b2) s
    rwa [tier_decodeBytes, opcode_decodeBytes] at h

theorem admissionCause_ne_none_iff (op : Byte) (s : State) :
    admissionCause (tierOfOpcode op) op s ≠ none ↔
      op ∈ haltingOpcodes.map (fun x => x.2) ∨ op ∈ unlistedOpcodes ∧ s.params.admitUnlisted = false := by
  unfold tierOfOpcode
  split_ifs with hhalting hunlisted
  · simp [admissionCause, hhalting]
  · simp [admissionCause, hhalting, hunlisted]
  · simp [admissionCause, hhalting, hunlisted]

/-- The causes of R272, each with its opcodes: IN and OUT are neither halting nor unlisted. -/
theorem haltCause_ne_none_iff (op port : Byte) (s : State) :
    haltCause op port s ≠ none ↔
      op ∈ haltingOpcodes.map (fun x => x.2) ∨ (op ∈ unlistedOpcodes ∧ s.params.admitUnlisted = false) ∨
      (op = 0xDB ∧ port ∉ [1#8, 2, 3]) ∨ (op = 0xD3 ∧ port ∉ [1#8, 2, 3, 4, 5, 6]) := by
  unfold haltCause
  split_ifs with hin hout
  · simp [hin, inPortCause, haltingOpcodes, unlistedOpcodes]
  · simp [hout, outPortCause, haltingOpcodes, unlistedOpcodes]
  · simp only [hin, hout, admissionCause_ne_none_iff, false_and, or_false]

/-! The step -/

theorem schedulerPhase_halted (s : State) : (schedulerPhase s).halted = s.halted := by
  obtain ⟨-, h⟩ | ⟨-, -, h⟩ | ⟨-, -, h⟩ := schedulerPhase_cases s <;> simp [h]

theorem schedulerPhase_params (s : State) : (schedulerPhase s).params = s.params := by
  obtain ⟨-, h⟩ | ⟨-, -, h⟩ | ⟨-, -, h⟩ := schedulerPhase_cases s <;> simp [h]

/-- Settles O17: a step runs the instruction at PC, which answers a next state with its cause in `halted`
(`exec_decodeBytes_answers`), and `haltCause_ne_none_iff` lists the causes. -/
theorem onlyListedCausesHalt : Obligations.OnlyListedCausesHalt := by
  intro s hs m op port
  have hm : m.halted = none := (schedulerPhase_halted s).trans hs
  obtain ⟨t, hexec, hcause⟩ := (exec_decodeBytes_answers op port (memRead (m.pc + 1 + 1) m) m).next_halted hm
  refine ⟨t, (step_of_running hs).trans hexec, ?_⟩
  rw [hcause, ← schedulerPhase_params s]
  exact haltCause_ne_none_iff op port m

end Sys2Proof.Proofs
end

section
/-!
SUPPORT. The decoder reads every instruction back from its own bytes (spec/30_encoding.md), so that a statement of an
instruction's bytes is one about the encoder alone.
-/

namespace Sys2Proof.Proofs

open Machine Expect

theorem opcodeLength_le_three (op : Byte) : opcodeLength op ≤ 3 := by
  unfold opcodeLength
  split_ifs <;> omega

/-- As many operand bytes as the opcode asks for are read, and nothing of what follows them (R73, R83). -/
theorem decode_append {op : Byte} {ops : List Byte} (hlen : ops.length + 1 = opcodeLength op) (rest : List Byte) :
    decode (op :: ops ++ rest) = .ok (decodeBytes op (ops.getD 0 0) (ops.getD 1 0), rest) := by
  have hle := opcodeLength_le_three op
  match ops with
  | [] | [_] | [_, _] => simp [decode, ← hlen]
  | _ :: _ :: _ :: _ =>
    simp only [List.length_cons] at hlen
    omega

/-- The map of R80 reads the bit fields of an instruction's opcode back as the instruction; the two bytes of a 16-bit
operand are put together again. -/
theorem decodeBytes_opcode (i : Instr) :
    decodeBytes (opcode i) ((operandBytes i).getD 0 0) ((operandBytes i).getD 1 0) = i := by
  cases i <;> simp only [opcode]
  case lxiB v | lxiD v | lxiH v | lxiSp v | shld v | lhld v | sta v | lda v | jmp v | call v | jnz v | jz v | jnc v |
      jc v | jpo v | jpe v | jp v | jm v | cnz v | cz v | cnc v | cc v | cpo v | cpe v | cp v | cm v =>
    conv_rhs => rw [← word16_hi_lo v]
    rfl
  all_goals rfl

/-- The bytes the encoder gives an instruction are decoded to it, whatever follows them. -/
theorem encodedAs_encode (i : Instr) : EncodedAs i (encode i) := by
  refine ⟨rfl, fun rest => ?_⟩
  rw [encode, decode_append (length_encode i), decodeBytes_opcode]

theorem encodedAs_of_encode_eq {i : Instr} {bytes : List Byte} (h : encode i = bytes) : EncodedAs i bytes :=
  h ▸ encodedAs_encode i

end Sys2Proof.Proofs
end

section
/-!
SUPPORT. The data transfer instructions of spec/40_data_transfer.md: moving PC past the instruction first or last is the
same, a pair is transferred as its two registers, and each family of instructions runs its shared operation.
-/

namespace Sys2Proof.Proofs

open Machine Expect

/-! Retirement and PC -/

/-- PC past the instruction, and the retirement, are what `done` says (R23, R74). -/
theorem retire_advance (n cost : Nat) (s : State) : retire cost (advance n s) = .next (done n cost s) := rfl

theorem writeReg_advance (r : Reg8) (v : Byte) (n : Nat) (s : State) :
    writeReg r v (advance n s) = advance n (writeReg r v s) := by
  cases r <;> rfl

theorem writePair_advance (p : RegPair) (v : Addr) (n : Nat) (s : State) :
    writePair p v (advance n s) = advance n (writePair p v s) := by
  cases p <;> rfl

theorem memWrite_advance (p : Addr) (v : Byte) (n : Nat) (s : State) :
    memWrite p v (advance n s) = advance n (memWrite p v s) := rfl

theorem push16_advance (v : Addr) (n : Nat) (s : State) : push16 v (advance n s) = advance n (pushed v s) :=
  push16_eq_pushed v (advance n s)

theorem pop16_advance (n : Nat) (s : State) :
    pop16 (advance n s) = (stackTop s, advance n { s with sp := s.sp + 2 }) :=
  pop16_eq_stackTop (advance n s)

/-! A pair as its two registers -/

theorem writePair_hl_word16 (hi lo : Byte) (s : State) :
    writePair .hl (word16 hi lo) s = { s with h := hi, l := lo } := by
  simp only [writePair, hiByte_word16, loByte_word16]

theorem writePair_de_word16 (hi lo : Byte) (s : State) :
    writePair .de (word16 hi lo) s = { s with d := hi, e := lo } := by
  simp only [writePair, hiByte_word16, loByte_word16]

theorem memWrite16_word16 (p : Addr) (hi lo : Byte) (s : State) :
    memWrite16 p (word16 hi lo) s = memWrite (p + 1) hi (memWrite p lo s) := by
  simp only [memWrite16, hiByte_word16, loByte_word16]

/-! The 8-bit moves -/

theorem encode_mov (dst src : Reg8) : encode (.mov dst src) = [byte (64 + 8 * regCode dst + regCode src)] := by
  cases dst <;> cases src <;> rfl

theorem exec_mov (dst src : Reg8) (s : State) : exec (.mov dst src) s = movReg dst src s := by
  cases dst <;> cases src <;> rfl

/-- Settles O25: the family runs `movReg`, and PC moves independently of the register written. -/
theorem movRegister : Obligations.MovRegister := by
  intro dst src s
  refine ⟨encodedAs_of_encode_eq (encode_mov dst src), ?_⟩
  rw [exec_mov, movReg, writeReg_advance, retire_advance]

theorem encode_movFromM (r : Reg8) : encode (.movFromM r) = [byte (64 + 8 * regCode r + 6)] := by
  cases r <;> rfl

theorem exec_movFromM (r : Reg8) (s : State) : exec (.movFromM r) s = Machine.movFromM r s := by
  cases r <;> rfl

theorem encode_movToM (r : Reg8) : encode (.movToM r) = [byte (64 + 8 * 6 + regCode r)] := by
  cases r <;> rfl

theorem exec_movToM (r : Reg8) (s : State) : exec (.movToM r) s = Machine.movToM r s := by
  cases r <;> rfl

/-- Settles O26: M is the byte at the HL of the starting state, in both directions. -/
theorem movMemory : Obligations.MovMemory := by
  intro r s
  refine ⟨encodedAs_of_encode_eq (encode_movFromM r), ?load, encodedAs_of_encode_eq (encode_movToM r), ?store, rfl⟩
  case load =>
    rw [exec_movFromM, Machine.movFromM, writeReg_advance, retire_advance]
    rfl
  case store =>
    rw [exec_movToM, Machine.movToM, writeM, memWrite_advance, retire_advance]
    rfl

theorem encode_mvi (r : Reg8) (d8 : Byte) : encode (.mvi r d8) = [byte (8 * regCode r + 6), d8] := by
  cases r <;> rfl

theorem exec_mvi (r : Reg8) (d8 : Byte) (s : State) : exec (.mvi r d8) s = mviReg r d8 s := by
  cases r <;> rfl

/-- Settles O27: the family runs `mviReg`. -/
theorem mviRegister : Obligations.MviRegister := by
  intro r d8 s
  refine ⟨encodedAs_of_encode_eq (encode_mvi r d8), ?_⟩
  rw [exec_mvi, mviReg, writeReg_advance, retire_advance]

theorem exec_ldax (p : IndexPair) (s : State) : exec (.ldax p) s = ldaxPair p s := by
  cases p <;> rfl

theorem exec_stax (p : IndexPair) (s : State) : exec (.stax p) s = staxPair p s := by
  cases p <;> rfl

theorem indexPairReg_eq (p : IndexPair) : indexPairReg p = indexPairOf p := by
  cases p <;> rfl

theorem encode_ldax (p : IndexPair) : encode (.ldax p) = [byte (16 * pairCode (indexPairOf p) + 10)] := by
  cases p <;> rfl

theorem encode_stax (p : IndexPair) : encode (.stax p) = [byte (16 * pairCode (indexPairOf p) + 2)] := by
  cases p <;> rfl

/-- Settles O28: LDA is `ldaDirect`, which loads before PC moves, and LDAX the same from the pair. -/
theorem loadAccumulator : Obligations.LoadAccumulator := by
  refine ⟨fun a16 s => ⟨encodedAs_of_encode_eq rfl, rfl⟩, fun p s => ⟨encodedAs_of_encode_eq (encode_ldax p), ?_⟩⟩
  rw [exec_ldax, ldaxPair, indexPairReg_eq, writeReg_advance, retire_advance, writeReg]

/-- Settles O29: STA is `staDirect`, and STAX stores to the address in the pair. -/
theorem storeAccumulator : Obligations.StoreAccumulator := by
  refine ⟨fun a16 s => ⟨encodedAs_of_encode_eq rfl, rfl⟩, fun p s => ⟨encodedAs_of_encode_eq (encode_stax p), ?_⟩⟩
  rw [exec_stax, staxPair, indexPairReg_eq, memWrite_advance, retire_advance]

/-! The 16-bit loads and exchanges -/

theorem exec_lhld (a16 : Addr) (s : State) : exec (.lhld a16) s = lhldDirect a16 s := rfl

theorem exec_shld (a16 : Addr) (s : State) : exec (.shld a16) s = shldDirect a16 s := rfl

/-- Settles O31: L goes with the byte at a16 and H with the next one, whichever way they move. -/
theorem loadStoreHlDirect : Obligations.LoadStoreHlDirect := by
  intro a16 s
  refine ⟨encodedAs_of_encode_eq rfl, ?load, encodedAs_of_encode_eq rfl, ?store⟩
  case load =>
    rw [exec_lhld, lhldDirect, writePair_advance, retire_advance, memRead16, writePair_hl_word16]
  case store =>
    rw [exec_shld, shldDirect, readPair, memWrite16_word16]
    rfl

theorem exec_xchg (s : State) : exec .xchg s = exchangeDeHl s := rfl

theorem exec_xthl (s : State) : exec .xthl s = exchangeStackHl s := rfl

/-- Settles O32: each side of an exchange is written with the values read before, register by register. -/
theorem exchanges : Obligations.Exchanges := by
  intro s
  refine ⟨encodedAs_of_encode_eq rfl, ?xchg, encodedAs_of_encode_eq rfl, ?xthl⟩
  case xchg =>
    rw [exec_xchg, exchangeDeHl, readPair, readPair, writePair_de_word16, writePair_hl_word16]
    rfl
  case xthl =>
    rw [exec_xthl, exchangeStackHl, readPair, memRead16, memWrite16_word16, writePair_hl_word16]
    rfl

/-! The stack -/

theorem pushPairReg_eq (p : PushPair) : pushPairReg p = pushPairOf p := by
  cases p <;> rfl

theorem encode_push (p : PushPair) : encode (.push p) = [byte (192 + 16 * pairCode (pushPairOf p) + 5)] := by
  cases p <;> rfl

theorem encode_pop (p : PushPair) : encode (.pop p) = [byte (192 + 16 * pairCode (pushPairOf p) + 1)] := by
  cases p <;> rfl

theorem exec_push (p : PushPair) (s : State) : exec (.push p) s = pushPairOp p s := by
  cases p <;> rfl

theorem exec_pop (p : PushPair) (s : State) : exec (.pop p) s = popPairOp p s := by
  cases p <;> rfl

/-- Settles O33: the primitives are those of R56, and PC moves independently of them. -/
theorem pushPopPair : Obligations.PushPopPair := by
  intro p s
  refine ⟨encodedAs_of_encode_eq (encode_push p), ?push, encodedAs_of_encode_eq (encode_pop p), ?pop⟩
  case push => rw [exec_push, pushPairOp, pushPairReg_eq, push16_advance, retire_advance]
  case pop => rw [exec_pop, popPairOp, pushPairReg_eq, pop16_advance, writePair_advance, retire_advance]

/-- POP PSW reads back the flags that PUSH PSW packs (R27). -/
theorem unpackFlags_packFlags (f : Flags) : unpackFlags (packFlags f) = f := by
  obtain ⟨s, z, p, cy, ac⟩ := f
  revert s z p cy ac
  decide

theorem exec_pushPsw (s : State) :
    exec .pushPsw s = .next (done 1 11 (pushed (word16 s.a (packFlags s.flags)) s)) := by
  change pushPswOp s = _
  rw [pushPswOp, push16_advance, retire_advance]

theorem hiByte_stackTop (s : State) : hiByte (stackTop s) = memRead (s.sp + 1) s := hiByte_word16 _ _

theorem loByte_stackTop (s : State) : loByte (stackTop s) = memRead s.sp s := loByte_word16 _ _

/-- POP PSW takes A and the flags from the two bytes of the top of the stack (R123). -/
theorem exec_popPsw (s : State) :
    exec .popPsw s = .next (done 1 10 { s with
      a := hiByte (stackTop s), flags := unpackFlags (loByte (stackTop s)), sp := s.sp + 2 }) := by
  change popPswOp s = _
  rw [popPswOp, pop16_advance]
  rfl

/-- Retirement moves no byte of the stack. -/
theorem stackTop_done (n cost : Nat) (s : State) : stackTop (done n cost s) = stackTop s := rfl

/-- PUSH PSW, then POP PSW: the two bytes popped are those pushed, so A and the flags are restored. -/
theorem runAll_pushPsw_popPsw {s : State} (hwf : s.mem.wf = true) :
    let t := done 1 11 (pushed (word16 s.a (packFlags s.flags)) s)
    runAll [.pushPsw, .popPsw] s = .next (done 1 10 { t with a := s.a, flags := s.flags, sp := t.sp + 2 }) := by
  simp only [runAll, exec_pushPsw, exec_popPsw, stackTop_done, stackTop_pushed hwf, hiByte_word16, loByte_word16,
    unpackFlags_packFlags]

/-- Settles O35: `unpackFlags` takes the flags from their bits, and `runAll_pushPsw_popPsw` is the round trip. -/
theorem popPsw : Obligations.PopPsw := by
  refine ⟨fun s => ⟨encodedAs_of_encode_eq rfl, ?pop⟩, fun s hwf => ?roundTrip⟩
  case pop =>
    rw [exec_popPsw, hiByte_stackTop, loByte_stackTop]
    rfl
  case roundTrip =>
    exact ⟨_, runAll_pushPsw_popPsw hwf, rfl, rfl, BitVec.sub_add_cancel s.sp 2⟩

end Sys2Proof.Proofs
end

section
/-!
SUPPORT. The arithmetic and logic instructions of spec/41_arithmetic_logic.md: the ALU functions and the flags as exact
arithmetic on naturals (R24, R164 to R167), and the shared operation each family of instructions runs.
-/

namespace Sys2Proof.Proofs

open Machine Expect

/-! A byte as a natural -/

theorem toNat_byte (n : Nat) : (byte n).toNat = n % 256 := BitVec.toNat_ofNat n 8

theorem eq_byte_of_toNat_eq {v : Byte} {n : Nat} (h : v.toNat = n) : v = byte n := by
  apply BitVec.eq_of_toNat_eq
  rw [toNat_byte, ← h, Nat.mod_eq_of_lt v.isLt]

theorem trunc8_eq_byte_mod (n : Nat) : trunc8 n = byte (n % 256) :=
  eq_byte_of_toNat_eq (BitVec.toNat_ofNat n 8)

/-! The flags of a result -/

theorem popcount_eq_countP (r : Byte) : popcount r = (List.range 8).countP (fun n => r.getLsbD n) := by
  simp only [popcount, List.range_succ, List.range_zero, List.nil_append, List.countP_append, List.countP_singleton,
    Bool.toNat, Bool.cond_eq_ite]

theorem parity_eq_evenOnes (r : Byte) : parity r = evenOnes r := by
  rw [parity, evenOnes, popcount_eq_countP]

/-- Bit 7 is the sign of R24. -/
theorem getLsbD_seven_eq_decide (r : Byte) : r.getLsbD 7 = decide (128 ≤ r.toNat) :=
  (BitVec.msb_eq_getLsbD_last r).symm.trans (BitVec.msb_eq_decide r)

theorem beq_zero_eq_decide (r : Byte) : (r == 0#8) = decide (r.toNat = 0) := by
  rw [beq_eq_decide, decide_eq_decide, ← BitVec.toNat_inj, BitVec.toNat_ofNat, Nat.zero_mod]

theorem szp_eq_resultFlags (r : Byte) (f : Flags) : szp r f = resultFlags r f.cy f := by
  rw [szp, resultFlags, getLsbD_seven_eq_decide, beq_zero_eq_decide, parity_eq_evenOnes]

theorem aluFlags_eq_resultFlags (x : AluResult) (f : Flags) : aluFlags x f = resultFlags x.r x.cy f := by
  rw [aluFlags, szp_eq_resultFlags]
  rfl

/-! The ALU functions -/

/-- The carry out of a sum that fits nine bits is its bit 8 (R164). -/
theorem testBit_eight_of_lt {t : Nat} (ht : t < 512) : t.testBit 8 = decide (256 ≤ t) := by
  rw [Nat.testBit_eq_decide_div_mod_eq, decide_eq_decide]
  omega

theorem add8_exact (a b : Byte) (cin : Bool) :
    add8 a b cin =
      ⟨byte ((a.toNat + b.toNat + cin.toNat) % 256), decide (256 ≤ a.toNat + b.toNat + cin.toNat)⟩ := by
  have ht : a.toNat + b.toNat + cin.toNat < 512 := by
    have ha := a.isLt
    have hb := b.isLt
    have hc := cin.toNat_le
    omega
  rw [add8, trunc8_eq_byte_mod, testBit_eight_of_lt ht]

theorem sub8_exact (a b : Byte) (bin : Bool) :
    sub8 a b bin =
      ⟨byte ((a.toNat + 256 - b.toNat - bin.toNat) % 256), decide (b.toNat + bin.toNat > a.toNat)⟩ := by
  rw [sub8, trunc8_eq_byte_mod]

/-- Each of the eight operations gives the exact result and carry (R164, R165, R166). -/
theorem aluResult_eq_aluExact (op : AluOp) (a src : Byte) (cy : Bool) :
    aluResult op a src cy =
      ⟨byte (aluExact op a.toNat src.toNat cy.toNat).1, (aluExact op a.toNat src.toNat cy.toNat).2⟩ := by
  cases op <;> simp only [aluResult, aluExact]
  case add | adc => exact add8_exact a src _
  case sub | sbb | cmp => exact sub8_exact a src _
  case ana => rw [logic8, eq_byte_of_toNat_eq (BitVec.toNat_and a src)]
  case xra => rw [logic8, eq_byte_of_toNat_eq (BitVec.toNat_xor a src)]
  case ora => rw [logic8, eq_byte_of_toNat_eq (BitVec.toNat_or a src)]

/-! The eight operations in their three forms -/

/-- An ALU instruction leaves the state `aluState`, and PC moves independently of it. -/
theorem retire_applyAlu_advance (op : AluOp) (src : Byte) (n cost : Nat) (s : State) :
    retire cost (applyAlu op src (advance n s)) = .next (aluState op src n cost s) := by
  simp only [applyAlu, advance_a, advance_flags, aluFlags_eq_resultFlags, aluResult_eq_aluExact]
  rfl

theorem encode_aluR (op : AluOp) (r : Reg8) :
    encode (.aluR op r) = [byte (128 + 8 * aluCode op + regCode r)] := by
  cases op <;> cases r <;> rfl

theorem exec_aluR (op : AluOp) (r : Reg8) (s : State) : exec (.aluR op r) s = aluReg op r s := by
  cases op <;> cases r <;> rfl

/-- Settles O38: the family runs `aluReg`, and `retire_applyAlu_advance` is its exact effect. -/
theorem aluRegister : Obligations.AluRegister := by
  intro op r s
  refine ⟨encodedAs_of_encode_eq (encode_aluR op r), ?_⟩
  rw [exec_aluR, aluReg, retire_applyAlu_advance]

theorem encode_aluM (op : AluOp) : encode (.aluM op) = [byte (128 + 8 * aluCode op + 6)] := by
  cases op <;> rfl

theorem exec_aluM (op : AluOp) (s : State) : exec (.aluM op) s = aluMem op s := by
  cases op <;> rfl

/-- The memory operand M is the byte at HL (R54, R75). -/
theorem readM_eq (s : State) : readM s = memRead (word16 s.h s.l) s := rfl

/-- Settles O39: the family runs `aluMem`, the register form's operation on the byte at HL. -/
theorem aluMemory : Obligations.AluMemory := by
  intro op s
  refine ⟨encodedAs_of_encode_eq (encode_aluM op), ?_⟩
  rw [exec_aluM, aluMem, retire_applyAlu_advance, readM_eq]

theorem encode_aluI (op : AluOp) (d8 : Byte) : encode (.aluI op d8) = [byte (192 + 8 * aluCode op + 6), d8] := by
  cases op <;> rfl

theorem exec_aluI (op : AluOp) (d8 : Byte) (s : State) : exec (.aluI op d8) s = aluImm op d8 s := by
  cases op <;> rfl

/-- Settles O40: the family runs `aluImm`, the register form's operation on the operand byte. -/
theorem aluImmediate : Obligations.AluImmediate := by
  intro op d8 s
  refine ⟨encodedAs_of_encode_eq (encode_aluI op d8), ?_⟩
  rw [exec_aluI, aluImm, retire_applyAlu_advance]

/-! Increment and decrement of a byte -/

theorem stepUp_eq_byte (v : Byte) : stepUp v = byte (v.toNat + 1) := by
  rw [stepUp, trunc8_eq_byte_mod, Nat.add_assoc, Nat.add_mod_left, ← trunc8_eq_byte_mod]
  rfl

theorem stepDown_eq_byte (v : Byte) : stepDown v = byte (v.toNat + 255) := by
  rw [stepDown, Nat.add_comm 256, Nat.add_sub_assoc (by decide)]
  rfl

/-- The first law of R167. -/
theorem stepDown_stepUp (v : Byte) : stepDown (stepUp v) = v := by
  apply BitVec.eq_of_toNat_eq
  rw [stepDown_eq_byte, stepUp_eq_byte, toNat_byte, toNat_byte]
  omega

/-- The second law of R167. -/
theorem stepUp_stepDown (v : Byte) : stepUp (stepDown v) = v := by
  apply BitVec.eq_of_toNat_eq
  rw [stepDown_eq_byte, stepUp_eq_byte, toNat_byte, toNat_byte]
  omega

/-- S, Z and P are written from the result, CY and AC are kept (R167), and PC moves independently of them. -/
theorem retire_setSzp_advance (r : Byte) (n cost : Nat) (s : State) :
    retire cost (setSzp r (advance n s)) =
      .next { done n cost s with flags := resultFlags r s.flags.cy s.flags } := by
  rw [setSzp, advance_flags, szp_eq_resultFlags]
  rfl

/-- The state INR r and DCR r leave for the result `v` (R170, R172). -/
def stepped (r : Reg8) (v : Byte) (s : State) : State :=
  { done 1 5 (writeReg r v s) with flags := resultFlags v s.flags.cy s.flags }

theorem readReg_stepped (r : Reg8) (v : Byte) (s : State) : readReg r (stepped r v s) = v := by
  cases r <;> rfl

theorem retire_setSzp_writeReg (r : Reg8) (v : Byte) (s : State) :
    retire 5 (setSzp v (writeReg r v (advance 1 s))) = .next (stepped r v s) := by
  rw [writeReg_advance, retire_setSzp_advance, writeReg_flags]
  rfl

theorem encode_inr (r : Reg8) : encode (.inr r) = [byte (8 * regCode r + 4)] := by
  cases r <;> rfl

theorem encode_dcr (r : Reg8) : encode (.dcr r) = [byte (8 * regCode r + 5)] := by
  cases r <;> rfl

theorem exec_inr (r : Reg8) (s : State) : exec (.inr r) s = .next (stepped r (stepUp (readReg r s)) s) := by
  have h : exec (.inr r) s = inrReg r s := by cases r <;> rfl
  rw [h, inrReg, retire_setSzp_writeReg]

theorem exec_dcr (r : Reg8) (s : State) : exec (.dcr r) s = .next (stepped r (stepDown (readReg r s)) s) := by
  have h : exec (.dcr r) s = dcrReg r s := by cases r <;> rfl
  rw [h, dcrReg, retire_setSzp_writeReg]

theorem runAll_inr_dcr (r : Reg8) (s : State) :
    runAll [.inr r, .dcr r] s = .next (stepped r (readReg r s) (stepped r (stepUp (readReg r s)) s)) := by
  simp only [runAll, exec_inr, exec_dcr, readReg_stepped, stepDown_stepUp]

theorem runAll_dcr_inr (r : Reg8) (s : State) :
    runAll [.dcr r, .inr r] s = .next (stepped r (readReg r s) (stepped r (stepDown (readReg r s)) s)) := by
  simp only [runAll, exec_inr, exec_dcr, readReg_stepped, stepUp_stepDown]

/-- Settles O41: both write `stepped`, with the result of `step8`; the round trips are the laws of R167. -/
theorem incrementDecrementRegister : Obligations.IncrementDecrementRegister := by
  refine ⟨fun r s => ?single, fun r s => ⟨?upDown, ?downUp⟩⟩
  case single =>
    refine ⟨encodedAs_of_encode_eq (encode_inr r), ?_, encodedAs_of_encode_eq (encode_dcr r), ?_⟩
    · rw [exec_inr, stepUp_eq_byte, stepped]
    · rw [exec_dcr, stepDown_eq_byte, stepped]
  case upDown => exact ⟨_, runAll_inr_dcr r s, readReg_stepped r _ _, rfl⟩
  case downUp => exact ⟨_, runAll_dcr_inr r s, readReg_stepped r _ _, rfl⟩

theorem exec_inrM (s : State) : exec .inrM s = inrMem s := rfl

theorem exec_dcrM (s : State) : exec .dcrM s = dcrMem s := rfl

/-- The read and the write of M use the same address, HL of the starting state (R171, R173). -/
theorem retire_setSzp_writeM (v : Byte) (s : State) :
    retire 10 (setSzp v (writeM v (advance 1 s))) =
      .next { done 1 10 (memWrite (word16 s.h s.l) v s) with flags := resultFlags v s.flags.cy s.flags } := by
  rw [writeM, memWrite_advance, retire_setSzp_advance]
  rfl

/-- Settles O42: the byte at HL takes the result of `step8`. -/
theorem incrementDecrementMemory : Obligations.IncrementDecrementMemory := by
  intro s
  refine ⟨encodedAs_of_encode_eq rfl, ?up, encodedAs_of_encode_eq rfl, ?down⟩
  case up => rw [exec_inrM, inrMem, retire_setSzp_writeM, stepUp_eq_byte, readM_eq]
  case down => rw [exec_dcrM, dcrMem, retire_setSzp_writeM, stepDown_eq_byte, readM_eq]

/-! Increment and decrement of a pair -/

theorem encode_inx (p : RegPair) : encode (.inx p) = [byte (16 * pairCode p + 3)] := by
  cases p <;> rfl

theorem encode_dcx (p : RegPair) : encode (.dcx p) = [byte (16 * pairCode p + 11)] := by
  cases p <;> rfl

theorem exec_inx (p : RegPair) (s : State) : exec (.inx p) s = inxPair p s := by
  cases p <;> rfl

theorem exec_dcx (p : RegPair) (s : State) : exec (.dcx p) s = dcxPair p s := by
  cases p <;> rfl

/-- Settles O43: the pair is written whole, so a carry out of the low register reaches the high one, and no flag
is written. -/
theorem incrementDecrementPair : Obligations.IncrementDecrementPair := by
  intro p s
  refine ⟨encodedAs_of_encode_eq (encode_inx p), ?up, encodedAs_of_encode_eq (encode_dcx p), ?down⟩
  case up => rw [exec_inx, inxPair, writePair_advance, retire_advance, trunc16]
  case down => rw [exec_dcx, dcxPair, writePair_advance, retire_advance, trunc16, Nat.add_comm]

/-! The complement and the carry -/

theorem exec_cma (s : State) : exec .cma s = .next (done 1 4 { s with a := ~~~s.a }) := rfl

theorem exec_stc (s : State) : exec .stc s = .next (done 1 4 { s with flags := { s.flags with cy := true } }) := rfl

/-- The complement of a byte is its distance from 0xFF (R180). -/
theorem not_eq_byte_sub (v : Byte) : ~~~v = byte (255 - v.toNat) :=
  eq_byte_of_toNat_eq BitVec.toNat_not

theorem runAll_cma_cma (s : State) : runAll [.cma, .cma] s = .next (done 1 4 (done 1 4 s)) := by
  simp only [runAll, exec_cma, done, BitVec.not_not]

/-- Settles O45: CMA writes A alone and STC CY alone, and the complement is its own inverse. -/
theorem complementAndSetCarry : Obligations.ComplementAndSetCarry := by
  refine ⟨fun s => ⟨encodedAs_of_encode_eq rfl, ?cma, encodedAs_of_encode_eq rfl, exec_stc s⟩, fun s => ?twice⟩
  case cma => rw [exec_cma, not_eq_byte_sub]
  case twice => exact ⟨_, runAll_cma_cma s, rfl, rfl⟩

end Sys2Proof.Proofs
end

section
/-!
SUPPORT. The control transfer instructions of spec/42_control_transfer.md: what pushing the return address and popping it
leave, the condition tests of R81, and the shared operation each family of instructions runs.
-/

namespace Sys2Proof.Proofs

open Machine Expect

/-! Jumps -/

/-- The target of a jump replaces the PC past the instruction (R200, R206). -/
theorem retire_jumpTo_advance (target : Addr) (n cost : Nat) (s : State) :
    retire cost (jumpTo target (advance n s)) = .next { done n cost s with pc := target } := rfl

theorem exec_jmp (a16 : Addr) (s : State) : exec (.jmp a16) s = jump a16 s := rfl

theorem exec_pchl (s : State) : exec .pchl s = jumpHl s := rfl

/-- Settles O46: both are `jumpTo`, with the operand and with HL. -/
theorem jumpsUnconditional : Obligations.JumpsUnconditional := by
  intro s
  refine ⟨fun a16 => ⟨encodedAs_of_encode_eq rfl, ?jmp⟩, encodedAs_of_encode_eq rfl, ?pchl⟩
  case jmp => rw [exec_jmp, jump, retire_jumpTo_advance]
  case pchl => rw [exec_pchl, jumpHl, readPair, retire_jumpTo_advance]

/-! The conditions -/

theorem condHolds_eq_condTrue (cond : Cond) (f : Flags) : condHolds cond f = condTrue cond f := by
  cases cond <;> simp only [condHolds, condTrue, beq_false, beq_true]

/-! Calls -/

/-- What a call, a restart and an interrupt entry leave: PC on the stack and the target in PC. -/
theorem pushPcAndJump_eq (target : Addr) (s : State) :
    pushPcAndJump target s = { pushed s.pc s with pc := target } := by
  rw [pushPcAndJump, push16_eq_pushed, jumpTo]

/-- PC has moved past the instruction when it is pushed, so what is pushed is the return address (R74, R202). -/
theorem retire_pushPcAndJump_advance (target : Addr) (n cost : Nat) (s : State) :
    retire cost (pushPcAndJump target (advance n s)) =
      .next { done n cost (pushed (s.pc + BitVec.ofNat 16 n) s) with pc := target } := by
  rw [pushPcAndJump_eq]
  rfl

theorem exec_call (a16 : Addr) (s : State) : exec (.call a16) s = callTo a16 s := rfl

theorem encode_ccc (cond : Cond) (a16 : Addr) :
    encode (.ccc cond a16) = [byte (192 + 8 * condCode cond + 4), loByte a16, hiByte a16] := by
  cases cond <;> rfl

theorem exec_ccc (cond : Cond) (a16 : Addr) (s : State) : exec (.ccc cond a16) s = callIf cond a16 s := by
  cases cond <;> rfl

/-- Settles O48: CALL is `retire_pushPcAndJump_advance`, and Ccc the same where its condition holds. -/
theorem calls : Obligations.Calls := by
  refine ⟨fun a16 s => ⟨encodedAs_of_encode_eq rfl, ?call⟩,
    fun cond a16 s => ⟨encodedAs_of_encode_eq (encode_ccc cond a16), ?ccc⟩⟩
  case call => exact retire_pushPcAndJump_advance a16 3 17 s
  case ccc =>
    rw [exec_ccc, callIf, condHolds_eq_condTrue]
    split
    case isTrue => exact retire_pushPcAndJump_advance a16 3 17 s
    case isFalse => exact retire_advance 3 11 s

/-! Returns -/

/-- What a return leaves: the word on the stack in PC, and SP past it (R204). -/
theorem returnToPopped_eq (s : State) : returnToPopped s = { s with pc := stackTop s, sp := s.sp + 2 } := by
  rw [returnToPopped, pop16_eq_stackTop, jumpTo]

theorem retire_returnToPopped_advance (n cost : Nat) (s : State) :
    retire cost (returnToPopped (advance n s)) =
      .next { done n cost s with pc := stackTop s, sp := s.sp + 2 } := by
  rw [returnToPopped_eq]
  rfl

theorem exec_ret (s : State) : exec .ret s = returnOp s := rfl

theorem encode_rcc (cond : Cond) : encode (.rcc cond) = [byte (192 + 8 * condCode cond)] := by
  cases cond <;> rfl

theorem exec_rcc (cond : Cond) (s : State) : exec (.rcc cond) s = returnIf cond s := by
  cases cond <;> rfl

/-- Settles O49: RET is `retire_returnToPopped_advance`, and Rcc the same where its condition holds. -/
theorem returns : Obligations.Returns := by
  refine ⟨fun s => ⟨encodedAs_of_encode_eq rfl, ?ret⟩,
    fun cond s => ⟨encodedAs_of_encode_eq (encode_rcc cond), ?rcc⟩⟩
  case ret => rw [exec_ret, returnOp, retire_returnToPopped_advance]
  case rcc =>
    rw [exec_rcc, returnIf, condHolds_eq_condTrue]
    split
    case isTrue => exact retire_returnToPopped_advance 1 11 s
    case isFalse => exact retire_advance 1 5 s

/-! Restarts -/

theorem restartVector_eq (n : Nat) : restartVector n = BitVec.ofNat 16 (8 * n) := by
  rw [restartVector, trunc16, Nat.mul_comm]

theorem encode_rst (n : Fin 8) : encode (.rst n) = [byte (192 + 8 * n.val + 7)] := by
  fin_cases n <;> rfl

theorem exec_rst (n : Fin 8) (s : State) : exec (.rst n) s = restart n.val s := by
  fin_cases n <;> rfl

/-- The field of RST n that interrupt entry reads is n (R84). -/
theorem restartField_eq (n : Fin 8) : ((byte (192 + 8 * n.val + 7)).extractLsb' 3 3).toNat = n.val := by
  revert n
  decide

/-- D12: acknowledging an interrupt keeps the enable unless `INTA_CLEARS_IE`. -/
theorem and_not_eq_ite (enabled clears : Bool) : (enabled && !clears) = if clears then false else enabled := by
  cases clears <;> simp

/-- Interrupt entry leaves what a call of no bytes and 11 cycles does, and the enable as D12 says (R278, D26). -/
theorem inject_eq (op : Byte) (s : State) :
    inject op s =
      { done 0 11 (pushed s.pc s) with
        pc := restartVector (op.extractLsb' 3 3).toNat
        interruptsEnabled := if s.params.intaClearsIe then false else s.interruptsEnabled } := by
  rw [inject, pushPcAndJump_eq, and_not_eq_ite]
  rfl

/-- Settles O50: fetched, RST n is a call of one byte to its vector; injected, `inject_eq` gives its effect, and the field
the vector comes from is n. -/
theorem restarts : Obligations.Restarts := by
  intro n s
  refine ⟨encodedAs_of_encode_eq (encode_rst n), ?fetched, ?injected⟩
  case fetched =>
    rw [exec_rst, restart, restartVector_eq]
    exact retire_pushPcAndJump_advance _ 1 11 s
  case injected => rw [inject_eq, restartField_eq, restartVector_eq]

end Sys2Proof.Proofs
end

section
/-!
SUPPORT. Machine control and the output ports (spec/43_machine_control.md, spec/44_io_port_layer.md): moving PC past OUT
first or last is the same at every port, and EI leaves the interrupt scheduler to the clock alone.
-/

namespace Sys2Proof.Proofs

open Machine Expect

/-! The output ports -/

/-- A port is independent of PC, whether it is defined or not (R242). -/
theorem portOut_advance (p v : Byte) (n : Nat) (s : State) :
    portOut p v (advance n s) = (portOut p v s).map (advance n) := by
  unfold portOut
  split_ifs <;> rfl

theorem exec_outPort (p8 : Byte) (s : State) : exec (.outPort p8) s = outputPort p8 s := rfl

/-- OUT to a defined port leaves what sending A to the port leaves, retired (R231). -/
theorem exec_outPort_of_portOut {p8 : Byte} {s t : State} (h : portOut p8 s.a s = some t) :
    exec (.outPort p8) s = .next (done 2 10 t) := by
  have hadv : portOut p8 s.a (advance 2 s) = some (advance 2 t) := by rw [portOut_advance, h, Option.map_some]
  rw [exec_outPort, outputPort, hadv]
  exact retire_advance 2 10 t

/-- The shift amount is the remainder of the value by 8 (R243). -/
theorem extractLsb'_zero_three_eq (v : Byte) : v.extractLsb' 0 3 = BitVec.ofNat 3 (v.toNat % 8) := by
  apply BitVec.eq_of_toNat_eq
  simp [BitVec.extractLsb'_toNat]

theorem portOut_two (v : Byte) (s : State) :
    portOut 2 v s = some { s with shifter := { s.shifter with offset := BitVec.ofNat 3 (v.toNat % 8) } } := by
  rw [← extractLsb'_zero_three_eq]
  rfl

/-- Settles O54: each of the six ports is defined, and `exec_outPort_of_portOut` retires what it leaves. -/
theorem outPorts : Obligations.OutPorts := by
  refine ⟨fun p8 => encodedAs_of_encode_eq rfl, fun s => ⟨?ignored1, ?shiftAmount, ?sound3, ?feed, ?sound5, ?ignored6⟩⟩
  case shiftAmount => exact exec_outPort_of_portOut (portOut_two s.a s)
  case ignored1 | sound3 | feed | sound5 | ignored6 => exact exec_outPort_of_portOut rfl

/-! The interrupt enable -/

theorem exec_nop (s : State) : exec .nop s = noOperation s := rfl

theorem exec_ei (s : State) : exec .ei s = enableInterrupts s := rfl

/-- EI writes the enable before it retires, with no delay of one instruction (R221). -/
theorem enableInterrupts_eq (s : State) :
    enableInterrupts s = .next (done 1 4 { s with interruptsEnabled := true }) :=
  retire_advance 1 4 { s with interruptsEnabled := true }

/-- With the enable set, the scheduler phase injects exactly when the clock has reached the wakeup (R277). -/
theorem injects_iff_due {s : State} (h : s.interruptsEnabled = true) :
    injects s = true ↔ s.nextWakeup.toNat ≤ s.cycle.toNat := by
  rw [injects, h, Bool.and_true, decide_eq_true_iff]

theorem interruptsEnabled_of_exec_ei {s t : State} (h : exec .ei s = .next t) : t.interruptsEnabled = true := by
  rw [exec_ei, enableInterrupts_eq] at h
  cases h
  rfl

/-- Settles O51: NOP is a bare retirement; EI retires with the enable set, so the next scheduler phase asks only whether the
wakeup is due. -/
theorem nopAndEi : Obligations.NopAndEi := by
  intro s
  refine ⟨encodedAs_of_encode_eq rfl, ?nop, encodedAs_of_encode_eq rfl, ?ei, fun t ht => ?due⟩
  case nop => rw [exec_nop, noOperation, retire_advance]
  case ei => rw [exec_ei, enableInterrupts_eq]
  case due => exact injects_iff_due (interruptsEnabled_of_exec_ei ht)

end Sys2Proof.Proofs
end

section
/-!
SUPPORT. The input ports of spec/44_io_port_layer.md: IN retires with A written from a defined port, and the shifter reads a
window of the word hi:lo, stated on naturals so that the three forms of R246 can be compared.
-/

namespace Sys2Proof.Proofs

open Machine Expect

theorem exec_inPort (p8 : Byte) (s : State) : exec (.inPort p8) s = inputPort p8 s := rfl

/-- IN from a defined port retires with A the byte read (R230). -/
theorem exec_inPort_of_portIn {p8 v : Byte} {s : State} (h : portIn p8 s = some v) :
    exec (.inPort p8) s = .next (done 2 10 { s with a := v }) := by
  rw [exec_inPort, inputPort, h]
  exact retire_advance 2 10 { s with a := v }

/-! The shifter -/

/-- Truncation to a byte loses only bits of the shifted high byte, as the shifted low byte has none above bit 7 (R246). -/
theorem shifterRead_eq_byte_or (x : Shifter) :
    shifterRead x =
      byte (x.hi.toNat <<< x.offset.toNat ||| x.lo.toNat >>> (8 - x.offset.toNat)) := by
  have hlo : x.lo.toNat >>> (8 - x.offset.toNat) < 2 ^ 8 :=
    (Nat.shiftRight_le _ _).trans_lt x.lo.isLt
  apply BitVec.eq_of_toNat_eq
  rw [toNat_byte, shifterRead, BitVec.toNat_or, BitVec.toNat_shiftLeft, BitVec.toNat_ushiftRight,
    Nat.or_mod_two_pow (n := 8), Nat.mod_eq_of_lt hlo]

/-- The two shifted bytes share no bit, and together they are the window of the word `hi:lo` that starts at bit
`8 - k` (R246). -/
theorem shiftLeft_or_shiftRight_eq_div {hi lo k : Nat} (hlo : lo < 2 ^ 8) (hk : k ≤ 8) :
    hi <<< k ||| lo >>> (8 - k) = (256 * hi + lo) / 2 ^ (8 - k) := by
  have hsplit : 256 = 2 ^ (8 - k) * 2 ^ k := by rw [← Nat.pow_add, Nat.sub_add_cancel hk]
  have hlow : lo / 2 ^ (8 - k) < 2 ^ k := Nat.div_lt_of_lt_mul (hlo.trans_eq hsplit)
  calc hi <<< k ||| lo >>> (8 - k)
      = 2 ^ k * hi ||| lo / 2 ^ (8 - k) := by
        rw [Nat.shiftLeft_eq, Nat.mul_comm, Nat.shiftRight_eq_div_pow]
    _ = 2 ^ k * hi + lo / 2 ^ (8 - k) := (Nat.two_pow_add_eq_or_of_lt hlow hi).symm
    _ = (256 * hi + lo) / 2 ^ (8 - k) := by
        rw [hsplit, Nat.mul_assoc, Nat.mul_add_div (Nat.two_pow_pos _)]

/-- A shift by `8 - k` can be done as one by `7 - k` and one more by 1 (R246). -/
theorem shiftRight_eight_sub {lo k : Nat} (hk : k < 8) : lo >>> (8 - k) = lo >>> (7 - k) >>> 1 := by
  rw [← Nat.shiftRight_add, ← Nat.sub_add_comm (Nat.le_of_lt_succ hk)]

/-- Settles O52: IN runs on the byte its port reads; the shifter's byte is that of the two shifted bytes, which are the window
of the word and the two-step shift. R246's table is evaluated. -/
theorem inShifterAndDip : Obligations.InShifterAndDip := by
  refine ⟨fun s => ?_, by decide⟩
  intro hi lo k
  have hk : k < 8 := s.shifter.offset.isLt
  have hwindow : byte ((256 * hi + lo) / 2 ^ (8 - k) % 256) = byte (hi <<< k ||| lo >>> (8 - k)) := by
    rw [← trunc8_eq_byte_mod, shiftLeft_or_shiftRight_eq_div s.shifter.lo.isLt hk.le]
    rfl
  refine ⟨?readsWindow, hwindow, ?twoStepShift, exec_inPort_of_portIn rfl⟩
  case readsWindow =>
    rw [hwindow, ← shifterRead_eq_byte_or s.shifter]
    exact exec_inPort_of_portIn rfl
  case twoStepShift => rw [shiftRight_eight_sub hk]

end Sys2Proof.Proofs
end

section
/-!
SUPPORT. The scheduler phase and the invariant of a run (spec/60_exceptions.md): what every instruction keeps, the halt that
agrees with its record, and `Inv` through each phase of a step.
-/

namespace Sys2Proof.Proofs

open Machine Expect

/-! The scheduler phase -/

/-- `trunc_64(next_wakeup + HALF_FRAME)` on naturals (R277). -/
theorem halfFrame_add_eq_ofNat (w : Counter) :
    BitVec.ofNat 64 Config.halfFrame + w = BitVec.ofNat 64 (w.toNat + 16666) := by
  rw [BitVec.ofNat_add, BitVec.ofNat_toNat, BitVec.setWidth_eq, BitVec.add_comm]
  rfl

/-- Steps b and c of R277. -/
theorem rearm_eq (s : State) :
    rearm s = { s with
      nextWakeup := BitVec.ofNat 64 (s.nextWakeup.toNat + 16666)
      nextInterruptOp := s.nextInterruptOp ^^^ 0x18 } := by
  rw [rearm, halfFrame_add_eq_ofNat]
  rfl

theorem interruptDue_eq_true_iff (s : State) : interruptDue s = true ↔ s.nextWakeup.toNat ≤ s.cycle.toNat :=
  decide_eq_true_iff

/-- Settles O14: `schedulerPhase_cases` gives the three cases, and `inject` writes neither field that `rearm` advances. -/
theorem schedulerRule : Obligations.SchedulerRule := by
  intro s
  have hdue := interruptDue_eq_true_iff s
  obtain ⟨hnot, h⟩ | ⟨hyes, hdisabled, h⟩ | ⟨hyes, henabled, h⟩ := schedulerPhase_cases s
  case inl => rw [h, if_neg (hdue.not.mp (by simp [hnot]))]
  case inr.inl => rw [h, if_pos (hdue.mp hyes), if_neg (by simp [hdisabled]), rearm_eq]
  case inr.inr =>
    rw [h, if_pos (hdue.mp hyes), if_pos henabled, rearm_eq, inject_nextWakeup, inject_nextInterruptOp]

/-! What every instruction keeps -/

/-- What no instruction breaks: the canonical form of memory, the next interrupt opcode and the parameters. -/
structure Keeps (s t : State) : Prop where
  wf : s.mem.wf = true → t.mem.wf = true
  nextInterruptOp : t.nextInterruptOp = s.nextInterruptOp
  params : t.params = s.params

/-- A state that a meaning answers from `s` keeps what `Keeps` says. -/
def AnswerKeeps (s : State) (o : Out) : Prop := ∀ t, o = .next t → Keeps s t

theorem answerKeeps_retire {s t : State} (cost : Nat) (h : Keeps s t) : AnswerKeeps s (retire cost t) := by
  intro u hu
  rw [retire_next.mp hu]
  exact ⟨h.wf, h.nextInterruptOp, h.params⟩

theorem answerKeeps_raiseHalt (reason : HaltReason) (s : State) : AnswerKeeps s (raiseHalt reason s) := by
  intro t ht
  rw [raiseHalt_next.mp ht]
  exact ⟨id, rfl, rfl⟩

theorem answerKeeps_ifUnlistedAdmitted (op : Byte) {s : State} {admitted : Out} (h : AnswerKeeps s admitted) :
    AnswerKeeps s (ifUnlistedAdmitted op s admitted) := by
  obtain ⟨-, hrun⟩ | ⟨-, hhalt⟩ := ifUnlistedAdmitted_cases op s admitted
  · rwa [hrun]
  · rw [hhalt]
    exact answerKeeps_raiseHalt _ s

theorem answerKeeps_inputPort (p : Byte) (s : State) : AnswerKeeps s (inputPort p s) := by
  obtain ⟨v, -, hrun⟩ | ⟨-, hhalt⟩ := inputPort_cases p s
  · rw [hrun]
    exact answerKeeps_retire 10 ⟨id, rfl, rfl⟩
  · rw [hhalt]
    exact answerKeeps_raiseHalt _ s

theorem keeps_of_portOut {p v : Byte} {s t : State} (h : portOut p v s = some t) : Keeps s t := by
  obtain rfl | rfl | rfl | rfl | rfl := portOut_cases h <;> exact ⟨id, rfl, rfl⟩

theorem answerKeeps_outputPort (p : Byte) (s : State) : AnswerKeeps s (outputPort p s) := by
  unfold outputPort
  split
  next t ht =>
    obtain ⟨hwf, hop, hparams⟩ := keeps_of_portOut ht
    exact answerKeeps_retire 10 ⟨hwf, hop, hparams⟩
  next => exact answerKeeps_raiseHalt _ s

theorem keeps_memWrite_advance (p : Addr) (v : Byte) (n : Nat) (s : State) : Keeps s (memWrite p v (advance n s)) :=
  ⟨fun h => memWrite_wf h p v, rfl, rfl⟩

theorem keeps_push16_advance (v : Addr) (n : Nat) (s : State) : Keeps s (push16 v (advance n s)) :=
  ⟨fun h => push16_wf h v, rfl, rfl⟩

theorem keeps_pushPcAndJump_advance (target : Addr) (n : Nat) (s : State) :
    Keeps s (pushPcAndJump target (advance n s)) :=
  ⟨fun h => push16_wf h _, rfl, rfl⟩

theorem keeps_returnToPopped_advance (n : Nat) (s : State) : Keeps s (returnToPopped (advance n s)) :=
  ⟨by simp, by simp, by simp⟩

/-- INR M and DCR M, which write the flags after the byte. -/
theorem keeps_setSzp_writeM_advance (v : Byte) (n : Nat) (s : State) : Keeps s (setSzp v (writeM v (advance n s))) :=
  ⟨fun h => memWrite_wf h _ v, rfl, rfl⟩

theorem answerKeeps_shldDirect (a16 : Addr) (s : State) : AnswerKeeps s (shldDirect a16 s) :=
  answerKeeps_retire 16 ⟨fun h => memWrite16_wf h a16 _, rfl, rfl⟩

theorem answerKeeps_exchangeStackHl (s : State) : AnswerKeeps s (exchangeStackHl s) :=
  answerKeeps_retire 18 ⟨fun h => memWrite16_wf h s.sp _, rfl, rfl⟩

theorem answerKeeps_popPairOp (p : PushPair) (s : State) : AnswerKeeps s (popPairOp p s) :=
  answerKeeps_retire 10 ⟨by simp, by simp, by simp⟩

theorem answerKeeps_popPswOp (s : State) : AnswerKeeps s (popPswOp s) :=
  answerKeeps_retire 10 ⟨by simp, by simp, by simp⟩

theorem answerKeeps_jumpIf (cond : Cond) (a16 : Addr) (s : State) : AnswerKeeps s (jumpIf cond a16 s) := by
  unfold jumpIf
  split <;> exact answerKeeps_retire 10 ⟨id, rfl, rfl⟩

theorem answerKeeps_callIf (cond : Cond) (a16 : Addr) (s : State) : AnswerKeeps s (callIf cond a16 s) := by
  unfold callIf
  split
  · exact answerKeeps_retire 17 (keeps_pushPcAndJump_advance a16 3 s)
  · exact answerKeeps_retire 11 ⟨id, rfl, rfl⟩

theorem answerKeeps_returnIf (cond : Cond) (s : State) : AnswerKeeps s (returnIf cond s) := by
  unfold returnIf
  split
  · exact answerKeeps_retire 11 (keeps_returnToPopped_advance 1 s)
  · exact answerKeeps_retire 5 ⟨id, rfl, rfl⟩

/-- The instructions that store, use the stack, test a condition or can halt run an operation with a lemma above; the others
write registers, flags, PC and the enable alone. -/
theorem exec_keeps (i : Instr) (s : State) : AnswerKeeps s (exec i s) := by
  cases i
  case inPort p => exact answerKeeps_inputPort p s
  case outPort p => exact answerKeeps_outputPort p s
  case hlt | undocumented08 | undocumented10 | undocumented18 | undocumented20 | undocumented28 | undocumented30 |
      undocumented38 | undocumentedCB | undocumentedD9 | undocumentedDD | undocumentedED | undocumentedFD =>
    exact answerKeeps_raiseHalt _ s
  case mviM d8 => exact answerKeeps_ifUnlistedAdmitted _ (answerKeeps_retire 10 (keeps_memWrite_advance _ d8 2 s))
  case cmc | di | sphl => exact answerKeeps_ifUnlistedAdmitted _ (answerKeeps_retire _ ⟨id, rfl, rfl⟩)
  case movMB | movMC | movMD | movME | movMH | movML | movMA | staxB | staxD =>
    exact answerKeeps_retire 7 (keeps_memWrite_advance _ _ 1 s)
  case sta a16 => exact answerKeeps_retire 13 (keeps_memWrite_advance a16 s.a 3 s)
  case inrM | dcrM => exact answerKeeps_retire 10 (keeps_setSzp_writeM_advance _ 1 s)
  case shld a16 => exact answerKeeps_shldDirect a16 s
  case xthl => exact answerKeeps_exchangeStackHl s
  case pushB | pushD | pushH | pushPsw => exact answerKeeps_retire 11 (keeps_push16_advance _ 1 s)
  case popB | popD | popH => exact answerKeeps_popPairOp _ s
  case popPsw => exact answerKeeps_popPswOp s
  case jnz | jz | jnc | jc | jpo | jpe | jp | jm => exact answerKeeps_jumpIf _ _ s
  case cnz | cz | cnc | cc | cpo | cpe | cp | cm => exact answerKeeps_callIf _ _ s
  case rnz | rz | rnc | rc | rpo | rpe | rp | rm => exact answerKeeps_returnIf _ s
  case call a16 => exact answerKeeps_retire 17 (keeps_pushPcAndJump_advance a16 3 s)
  case ret => exact answerKeeps_retire 10 (keeps_returnToPopped_advance 1 s)
  case rst0 | rst1 | rst2 | rst3 | rst4 | rst5 | rst6 | rst7 =>
    exact answerKeeps_retire 11 (keeps_pushPcAndJump_advance _ 1 s)
  all_goals exact answerKeeps_retire _ ⟨id, rfl, rfl⟩

/-! The halt agrees with its record -/

theorem haltAgrees_of_running {s : State} (h : s.halted = none) : s.haltAgrees = true := by
  rw [State.haltAgrees, h]

theorem haltAgrees_haltedWith (reason : HaltReason) (s : State) :
    (haltedWith reason s).haltAgrees = reason.agrees s := by
  cases reason <;> rfl

theorem haltAgrees_setButtons (b : Buttons) (s : State) : (setButtons b s).haltAgrees = s.haltAgrees := by
  unfold State.haltAgrees
  rw [setButtons_halted]
  split
  · rfl
  next reason _ => cases reason <;> rfl

/-- An instruction that halts for want of admission is not well-formed (R74). -/
theorem not_wellFormed_of_admissionCause {i : Instr} {op : Byte} {s : State} {reason : HaltReason}
    (h : admissionCause i.tier op s = some reason) :
    reason = .unknownOpcode op s.icount s.pc ∧ i.wellFormed s.params.admitUnlisted = false := by
  unfold Instr.wellFormed Instr.notHalting Instr.unlistedAllowed
  cases htier : i.tier with
  | listed => simp [admissionCause, htier] at h
  | halting =>
    simp only [admissionCause, htier, Option.some.injEq] at h
    exact ⟨h.symm, rfl⟩
  | unlisted =>
    simp only [admissionCause, htier] at h
    split at h
    · cases h
    next hadmit => exact ⟨(Option.some.inj h).symm, by simp [hadmit]⟩

/-- The cause at PC records PC, `icount` and the bytes in memory (R271, R272). -/
theorem agrees_of_haltCause {s : State} {reason : HaltReason}
    (h : haltCause (memRead s.pc s) (memRead (s.pc + 1) s) s = some reason) : reason.agrees s = true := by
  unfold haltCause at h
  split_ifs at h with hin hout
  · unfold inPortCause at h
    split_ifs at h with hport
    cases h
    simpa [HaltReason.agrees, hin] using hport
  · unfold outPortCause at h
    split_ifs at h with hport
    cases h
    simpa [HaltReason.agrees, hout] using hport
  · rw [← tier_decodeBytes _ 0 0] at h
    obtain ⟨rfl, hbad⟩ := not_wellFormed_of_admissionCause h
    simpa [HaltReason.agrees] using hbad

/-- From a running state, the engine phase leaves a state that runs or whose halt agrees with it. -/
theorem haltAgrees_of_enginePhase {s t : State} (hs : s.halted = none) (h : enginePhase s = .next t) :
    t.haltAgrees = true := by
  have hanswers : Answers s (enginePhase s) (haltCause (memRead s.pc s) (memRead (s.pc + 1) s) s) :=
    exec_decodeBytes_answers _ _ _ s
  rw [h] at hanswers
  cases hcause : haltCause (memRead s.pc s) (memRead (s.pc + 1) s) s with
  | none =>
    obtain ⟨u, hu, hhalted⟩ := hcause ▸ hanswers
    cases hu
    exact haltAgrees_of_running (hhalted.trans hs)
  | some reason =>
    rw [hcause] at hanswers
    rw [raiseHalt_next.mp hanswers.symm]
    exact (haltAgrees_haltedWith reason s).trans (agrees_of_haltCause hcause)

/-! The invariant of a run -/

theorem launch_inv (p : Params) (rom : List Byte) : (State.launch p rom).Inv := by
  have hfits : (rom.take Config.romSize).length ≤ Config.memSize :=
    (List.length_take_le _ _).trans (by decide)
  exact ⟨Memory.wf_ofImage hfits, .inl rfl, rfl⟩

theorem setButtons_inv {s : State} (h : s.Inv) (b : Buttons) : (setButtons b s).Inv := by
  obtain ⟨hwf, hop, hhalt⟩ := h
  exact ⟨hwf, hop, (haltAgrees_setButtons b s).trans hhalt⟩

/-- The toggle exchanges RST 1 and RST 2 (R277). -/
theorem toggle_rst {op : Byte} (h : op = 0xCF ∨ op = 0xD7) : op ^^^ 0x18 = 0xCF ∨ op ^^^ 0x18 = 0xD7 := by
  obtain rfl | rfl := h
  · exact .inr rfl
  · exact .inl rfl

theorem schedulerPhase_inv {s : State} (hs : s.halted = none) (h : s.Inv) : (schedulerPhase s).Inv := by
  obtain ⟨hwf, hop, -⟩ := h
  have hagrees : (schedulerPhase s).haltAgrees = true :=
    haltAgrees_of_running ((schedulerPhase_halted s).trans hs)
  obtain ⟨-, hphase⟩ | ⟨-, -, hphase⟩ | ⟨-, -, hphase⟩ := schedulerPhase_cases s <;> rw [hphase] at hagrees ⊢
  · exact ⟨hwf, hop, hagrees⟩
  · exact ⟨hwf, toggle_rst hop, hagrees⟩
  · exact ⟨inject_wf hwf s.nextInterruptOp, toggle_rst hop, hagrees⟩

theorem enginePhase_inv {s t : State} (hs : s.halted = none) (h : s.Inv) (ht : enginePhase s = .next t) : t.Inv := by
  obtain ⟨hwf, hop, -⟩ := h
  have hkeeps := exec_keeps (fetchInstr s) s t ht
  exact ⟨hkeeps.wf hwf, hkeeps.nextInterruptOp ▸ hop, haltAgrees_of_enginePhase hs ht⟩

/-- A step goes from the invariant to the invariant through the state between its two phases. -/
theorem step_inv {s t : State} (h : s.Inv) (ht : step s = .next t) : t.Inv := by
  obtain ⟨hs, hengine⟩ := step_next ht
  exact enginePhase_inv ((schedulerPhase_halted s).trans hs) (schedulerPhase_inv hs h) hengine

theorem step_params {s t : State} (ht : step s = .next t) : t.params = s.params := by
  obtain ⟨-, hengine⟩ := step_next ht
  exact (exec_keeps _ _ t hengine).params.trans (schedulerPhase_params s)

/-- Settles O6, by induction on the run: `Inv` and the parameters hold at launch, and each step and each button input keeps
them. -/
theorem reachableStatesMeetInvariant : Obligations.ReachableStatesMeetInvariant := by
  intro p rom s hreach
  induction hreach with
  | launch => exact ⟨launch_inv p rom, rfl⟩
  | step _ hstep ih =>
    obtain ⟨hinv, hparams⟩ := ih
    exact ⟨step_inv hinv hstep, (step_params hstep).trans hparams⟩
  | buttons b _ ih =>
    obtain ⟨hinv, hparams⟩ := ih
    exact ⟨setButtons_inv hinv b, hparams⟩

end Sys2Proof.Proofs
end

section
/-!
SUPPORT. The two directions of the round trip of spec/30_encoding.md: what the decoder does with every byte string, and the
bytes an instruction is decoded from, which are its encoding.
-/

namespace Sys2Proof.Proofs

open Machine Expect

/-- Settles O8: the bytes the encoder gives are decoded to the instruction, whatever follows (`encodedAs_encode`). -/
theorem decodeOfEncode : Obligations.DecodeOfEncode := by
  intro i rest
  obtain ⟨-, hdecode⟩ := encodedAs_encode i
  exact hdecode rest

/-! The bytes an instruction is decoded from -/

/-- The operand bytes of an instruction of `len` bytes, from the two bytes after its opcode (R73, R83). -/
def operandsOfLength (len : Nat) (b1 b2 : Byte) : List Byte :=
  if len = 3 then [loByte (word16 b2 b1), hiByte (word16 b2 b1)] else if len = 2 then [b1] else []

/-- An instruction keeps the operand bytes it was decoded from: each of the 256 opcodes is evaluated, with the operand
bytes left open. -/
theorem operandBytes_decodeBytes (op b1 b2 : Byte) :
    operandBytes (decodeBytes op b1 b2) = operandsOfLength (opcodeLength op) b1 b2 := by
  obtain ⟨n, hn, rfl⟩ := exists_eq_byte op
  interval_cases n <;> rfl

theorem opcodeLength_cases (op : Byte) : opcodeLength op = 1 ∨ opcodeLength op = 2 ∨ opcodeLength op = 3 := by
  unfold opcodeLength
  split_ifs <;> simp

/-- What is decoded from an opcode and two bytes is encoded by as many of the three as its length says (R83). -/
theorem encode_decodeBytes (op b1 b2 : Byte) :
    encode (decodeBytes op b1 b2) = [op, b1, b2].take (opcodeLength op) := by
  rw [encode, opcode_decodeBytes, operandBytes_decodeBytes]
  obtain h | h | h := opcodeLength_cases op <;> simp [h, operandsOfLength]

/-! What the decoder does with a byte string -/

theorem decode_short {op : Byte} {rest : List Byte} (h : rest.length + 1 < opcodeLength op) :
    decode (op :: rest) = .error (.missingOperand op) := by
  have hle := opcodeLength_le_three op
  match rest with
  | [] =>
    obtain h1 | h2 | h3 := opcodeLength_cases op
    · simp [h1] at h
    · simp [decode, h2]
    · simp [decode, h3]
  | [_] =>
    have h3 : opcodeLength op = 3 := le_antisymm hle h
    simp [decode, h3]
  | _ :: _ :: _ =>
    simp only [List.length_cons] at h
    omega

/-- After an opcode byte the decoder reads the operand bytes the opcode asks for, or says that they are missing (R83). -/
theorem decode_cons_cases (op : Byte) (bytes : List Byte) :
    (bytes.length + 1 < opcodeLength op ∧ decode (op :: bytes) = .error (.missingOperand op)) ∨
    ∃ ops rest, bytes = ops ++ rest ∧ ops.length + 1 = opcodeLength op ∧
      decode (op :: bytes) = .ok (decodeBytes op (ops.getD 0 0) (ops.getD 1 0), rest) := by
  obtain hshort | hlong := Nat.lt_or_ge (bytes.length + 1) (opcodeLength op)
  · exact .inl ⟨hshort, decode_short hshort⟩
  · have hpos : 1 ≤ opcodeLength op := by
      obtain h | h | h := opcodeLength_cases op <;> omega
    have hlen : (bytes.take (opcodeLength op - 1)).length + 1 = opcodeLength op := by
      rw [List.length_take]
      omega
    have hdecode := decode_append hlen (bytes.drop (opcodeLength op - 1))
    rw [List.cons_append, List.take_append_drop] at hdecode
    exact .inr ⟨_, _, (List.take_append_drop _ _).symm, hlen, hdecode⟩

/-- As many operand bytes as the opcode asks for are given back by the encoder. -/
theorem encode_decodeBytes_operands {op : Byte} {ops : List Byte} (hlen : ops.length + 1 = opcodeLength op) :
    encode (decodeBytes op (ops.getD 0 0) (ops.getD 1 0)) = op :: ops := by
  have hle := opcodeLength_le_three op
  rw [encode_decodeBytes, ← hlen]
  match ops with
  | [] | [_] | [_, _] => rfl
  | _ :: _ :: _ :: _ =>
    simp only [List.length_cons] at hlen
    omega

/-- Settles O9: a string that is decoded is an opcode with its operand bytes and the rest (`decode_cons_cases`), and the
encoder gives those bytes back (`encode_decodeBytes_operands`). -/
theorem encodeOfDecode : Obligations.EncodeOfDecode := by
  intro bytes rest i h
  cases bytes with
  | nil => cases h
  | cons op bytes =>
    obtain ⟨-, herror⟩ | ⟨ops, tail, rfl, hlen, hok⟩ := decode_cons_cases op bytes
    · cases herror.symm.trans h
    · cases hok.symm.trans h
      rw [encode_decodeBytes_operands hlen, List.cons_append]

theorem length_encode_decodeBytes (op b1 b2 : Byte) : (encode (decodeBytes op b1 b2)).length = opcodeLength op := by
  rw [length_encode, opcode_decodeBytes]

/-- Settles O10: of the cases of `decode_cons_cases`, the short string alone is rejected. -/
theorem decodeRejectsOnlyTruncated : Obligations.DecodeRejectsOnlyTruncated := by
  intro bytes e
  cases bytes with
  | nil => simp [decode, eq_comm]
  | cons op bytes =>
    simp only [reduceCtorEq, false_and, false_or, List.cons.injEq, ↓existsAndEq, and_true, true_and]
    rw [List.length_cons, length_encode_decodeBytes]
    obtain ⟨hshort, herror⟩ | ⟨ops, rest, rfl, hlen, hok⟩ := decode_cons_cases op bytes
    · simp [herror, hshort, eq_comm]
    · simp only [hok, reduceCtorEq, List.length_append, false_iff, not_and]
      omega

/-! The three sets of opcodes -/

theorem tierOfOpcode_eq_halting_iff (op : Byte) :
    tierOfOpcode op = .halting ↔ op ∈ haltingOpcodes.map (fun x => x.2) := by
  unfold tierOfOpcode
  split_ifs with hhalting <;> simp only [hhalting]

theorem unlistedOpcodes_not_halting : ∀ op ∈ unlistedOpcodes, op ∉ haltingOpcodes.map (fun x => x.2) := by decide

theorem tierOfOpcode_eq_unlisted_iff (op : Byte) : tierOfOpcode op = .unlisted ↔ op ∈ unlistedOpcodes := by
  unfold tierOfOpcode
  split_ifs with hhalting hunlisted
  · simpa using fun hunlisted => unlistedOpcodes_not_halting op hunlisted hhalting
  · simpa
  · simpa

/-- Settles O12: the byte strings are evaluated, and an instruction is in the set of its opcode (`tier_decodeBytes`). -/
theorem sampleEncodings : Obligations.SampleEncodings := by
  refine ⟨rfl, rfl, rfl, rfl, rfl, rfl, rfl, rfl, rfl, rfl, rfl, rfl, rfl, rfl, rfl, rfl, rfl, rfl, rfl,
    fun op => ?unlisted, fun op => ?halting⟩ <;> rw [tier_decodeBytes]
  case unlisted => exact tierOfOpcode_eq_unlisted_iff op
  case halting => exact tierOfOpcode_eq_halting_iff op

end Sys2Proof.Proofs
end

section
/-!
SUPPORT. The last of the instructions: the immediate load of a pair, the flag byte and the buttons byte as sums of bits,
DAD and the rotates as arithmetic on naturals (spec/41_arithmetic_logic.md), the conditional jumps, the halts, and the
round trips through the stack.
-/

namespace Sys2Proof.Proofs

open Machine Expect

/-! LXI and the conditional jumps -/

theorem encode_lxi (p : RegPair) (d16 : Addr) :
    encode (.lxi p d16) = [byte (16 * pairCode p + 1), byte (d16.toNat % 256), byte (d16.toNat / 256)] := by
  rw [← hiByte_eq_byte_div, ← loByte_eq_byte_mod]
  cases p <;> rfl

theorem exec_lxi (p : RegPair) (d16 : Addr) (s : State) : exec (.lxi p d16) s = lxiPair p d16 s := by
  cases p <;> rfl

/-- Settles O30: the family runs `lxiPair`, and PC moves independently of the pair. -/
theorem lxiPair : Obligations.LxiPair := by
  intro p d16 s
  refine ⟨encodedAs_of_encode_eq (encode_lxi p d16), ?_⟩
  rw [exec_lxi, Machine.lxiPair, writePair_advance, retire_advance]

theorem encode_jcc (cond : Cond) (a16 : Addr) :
    encode (.jcc cond a16) = [byte (192 + 8 * condCode cond + 2), loByte a16, hiByte a16] := by
  cases cond <;> rfl

theorem exec_jcc (cond : Cond) (a16 : Addr) (s : State) : exec (.jcc cond a16) s = jumpIf cond a16 s := by
  cases cond <;> rfl

/-- Settles O47: the family runs `jumpIf`, whose two branches differ in PC alone. -/
theorem jumpConditional : Obligations.JumpConditional := by
  intro cond a16 s
  refine ⟨encodedAs_of_encode_eq (encode_jcc cond a16), ?_⟩
  rw [exec_jcc, jumpIf, condHolds_eq_condTrue]
  split
  case isTrue => exact retire_jumpTo_advance a16 3 10 s
  case isFalse => exact retire_advance 3 10 s

/-! The unlisted and the halting opcodes -/

/-- An admitted opcode runs. -/
theorem ifUnlistedAdmitted_of_admitted {s : State} (h : s.params.admitUnlisted = true) (op : Byte) (admitted : Out) :
    ifUnlistedAdmitted op s admitted = admitted :=
  if_pos h

/-- An opcode that is not admitted halts. -/
theorem ifUnlistedAdmitted_of_not_admitted {s : State} (h : s.params.admitUnlisted = false) (op : Byte)
    (admitted : Out) :
    ifUnlistedAdmitted op s admitted = .next (haltedWith (.unknownOpcode op s.icount s.pc) s) :=
  if_neg (by simp [h])

/-- Settles O36: each of the four runs once it is admitted. -/
theorem unlistedAdmitted : Obligations.UnlistedAdmitted := by
  intro s hadmit
  refine ⟨fun d8 => ?mviM, ?cmc, ?di, ?sphl⟩ <;> exact ifUnlistedAdmitted_of_admitted hadmit _ _

theorem encode_haltingOpcodes : ∀ x ∈ haltingOpcodes, encode x.1 = [x.2] ∧ x.1.tier = .halting := by decide

/-- An instruction of R79 halts on every path. -/
theorem exec_of_tier_halting {i : Instr} (htier : i.tier = .halting) (s : State) :
    exec i s = .next (haltedWith (.unknownOpcode (opcode i) s.icount s.pc) s) := by
  have hin (p : Byte) : i ≠ .inPort p := by rintro rfl; cases htier
  have hout (p : Byte) : i ≠ .outPort p := by rintro rfl; cases htier
  have hanswers := exec_answers_admissionCause hin hout s
  rwa [htier] at hanswers

/-- Settles O37: the 13 opcodes are those of the halting instructions, and the four halt where they are not admitted. -/
theorem haltingOpcodesHalt : Obligations.HaltingOpcodesHalt := by
  refine ⟨fun x hx => ?halting, fun d8 => encodedAs_of_encode_eq rfl, encodedAs_of_encode_eq rfl,
    encodedAs_of_encode_eq rfl, encodedAs_of_encode_eq rfl, fun s hadmit => ⟨fun d8 => ?mviM, ?cmc, ?di, ?sphl⟩⟩
  case halting =>
    obtain ⟨hencode, htier⟩ := encode_haltingOpcodes x hx
    obtain ⟨hopcode, -⟩ := List.cons.inj hencode
    exact ⟨encodedAs_of_encode_eq hencode, fun s => hopcode ▸ exec_of_tier_halting htier s⟩
  case mviM | cmc | di | sphl => exact ifUnlistedAdmitted_of_not_admitted hadmit _ _

/-! Bytes made of bits -/

/-- The bits of R27 have different weights, so that the flag byte is their sum. -/
theorem packFlags_eq_flagByte (f : Flags) : packFlags f = flagByte f := by
  obtain ⟨s, z, p, cy, ac⟩ := f
  revert s z p cy ac
  decide

/-- Settles O34: the byte pushed below A is `packFlags`. -/
theorem pushPsw : Obligations.PushPsw := by
  intro s
  refine ⟨encodedAs_of_encode_eq rfl, ?_⟩
  rw [exec_pushPsw, packFlags_eq_flagByte]

/-- The bits of R245 have different weights, so that the buttons byte is their sum. -/
theorem buttonsByte_eq_buttonsExpected (s : State) : buttonsByte s = buttonsExpected s := by
  unfold buttonsByte buttonsExpected
  generalize s.buttons.p1Right = b6, s.buttons.p1Left = b5, s.buttons.p1Fire = b4, s.params.in1Bit3 = b3,
    s.buttons.p1Start = b2, s.buttons.p2Start = b1, s.buttons.coin = b0
  revert b6 b5 b4 b3 b2 b1 b0
  decide

/-- Settles O53: port 1 reads the buttons byte. -/
theorem inButtons : Obligations.InButtons := by
  refine ⟨fun p8 => encodedAs_of_encode_eq rfl, fun s => ?_⟩
  rw [← buttonsByte_eq_buttonsExpected]
  exact exec_inPort_of_portIn rfl

/-! Undefined ports -/

theorem exec_inPort_of_undefined {p8 : Byte} {s : State} (h : portIn p8 s = none) :
    exec (.inPort p8) s = .next (haltedWith (.unknownInPort p8 s.icount s.pc) s) := by
  rw [exec_inPort, inputPort, h]
  rfl

theorem exec_outPort_of_undefined {p8 : Byte} {s : State} (h : portOut p8 s.a (advance 2 s) = none) :
    exec (.outPort p8) s = .next (haltedWith (.unknownOutPort p8 s.icount s.pc) s) := by
  rw [exec_outPort, outputPort, h]
  rfl

/-- Settles O55: a port number outside the range is none of the defined ports. -/
theorem undefinedPortsHalt : Obligations.UndefinedPortsHalt := by
  intro p8 s
  refine ⟨fun h => exec_inPort_of_undefined ((portIn_eq_none_iff p8 s).mpr ?_),
    fun h => exec_outPort_of_undefined ((portOut_eq_none_iff p8 s.a _).mpr ?_)⟩ <;>
  · simp only [List.mem_cons, List.not_mem_nil, or_false]
    bv_omega

/-! DAD and the rotates -/

theorem encode_dad (p : RegPair) : encode (.dad p) = [byte (16 * pairCode p + 9)] := by
  cases p <;> rfl

theorem exec_dad (p : RegPair) (s : State) : exec (.dad p) s = dadPair p s := by
  cases p <;> rfl

/-- The carry out of a sum of two 16-bit values is its bit 16 (R176). -/
theorem testBit_sixteen_of_lt {t : Nat} (ht : t < 131072) : t.testBit 16 = decide (65536 ≤ t) := by
  rw [Nat.testBit_eq_decide_div_mod_eq, decide_eq_decide]
  omega

/-- HL takes the sum and CY its bit 16, and PC moves independently of them. -/
theorem dadPair_eq (p : RegPair) (s : State) :
    let t := (readPair .hl s).toNat + (readPair p s).toNat
    dadPair p s = .next { done 1 10 (writePair .hl (BitVec.ofNat 16 t) s) with
      flags := { s.flags with cy := decide (65536 ≤ t) } } := by
  intro t
  have ht : t < 131072 := Nat.add_lt_add (readPair .hl s).isLt (readPair p s).isLt
  rw [← testBit_sixteen_of_lt ht]
  rfl

/-- Bit 0 shifted in from the right (R190, R192). -/
theorem shiftLeft_or_bitAt (v : Byte) (b : Bool) : v <<< 1 ||| bitAt b 0 = byte (2 * v.toNat % 256 + b.toNat) := by
  have hbit : (bitAt b 0).toNat = b.toNat := by cases b <;> rfl
  have hv : (v <<< 1).toNat = 2 ^ 1 * (v.toNat % 128) := by
    rw [BitVec.toNat_shiftLeft, Nat.shiftLeft_eq]
    omega
  apply eq_byte_of_toNat_eq
  rw [BitVec.toNat_or, hbit, hv, ← Nat.two_pow_add_eq_or_of_lt b.toNat_lt]
  omega

/-- Bit 7 shifted in from the left (R191, R193). -/
theorem shiftRight_or_bitAt (v : Byte) (b : Bool) : v >>> 1 ||| bitAt b 7 = byte (v.toNat / 2 + 128 * b.toNat) := by
  have hbit : (bitAt b 7).toNat = 2 ^ 7 * b.toNat := by cases b <;> rfl
  have hv : (v >>> 1).toNat = v.toNat / 2 := by
    rw [BitVec.toNat_ushiftRight, Nat.shiftRight_eq_div_pow, pow_one]
  have hlt : v.toNat / 2 < 2 ^ 7 := by omega
  apply eq_byte_of_toNat_eq
  rw [BitVec.toNat_or, hbit, hv, Nat.or_comm, ← Nat.two_pow_add_eq_or_of_lt hlt, Nat.add_comm]

/-- The bit that a left rotate shifts out. -/
theorem toNat_decide_ge (v : Byte) : (decide (128 ≤ v.toNat)).toNat = v.toNat / 128 := by
  rw [Bool.toNat, Bool.cond_decide]
  split <;> omega

theorem getLsbD_zero_eq_decide (v : Byte) : v.getLsbD 0 = decide (v.toNat % 2 = 1) := Nat.testBit_zero v.toNat

/-- The bit that a right rotate shifts out. -/
theorem toNat_decide_odd (v : Byte) : (decide (v.toNat % 2 = 1)).toNat = v.toNat % 2 := by
  rw [Bool.toNat, Bool.cond_decide]
  split <;> omega

/-- The rotates write A and CY, and PC moves independently of them. -/
theorem retire_setCy_writeA_advance (cy : Bool) (v : Byte) (s : State) :
    retire 4 (setCy cy (writeReg .a v (advance 1 s))) =
      .next { done 1 4 s with a := v, flags := { s.flags with cy := cy } } := rfl

theorem exec_rlc (s : State) : exec .rlc s = rotateLeft s := rfl

theorem exec_rrc (s : State) : exec .rrc s = rotateRight s := rfl

theorem exec_ral (s : State) : exec .ral s = rotateLeftCarry s := rfl

theorem exec_rar (s : State) : exec .rar s = rotateRightCarry s := rfl

/-- Settles O44: DAD is `dadPair_eq`, and each rotate shifts one bit out, into CY, and one bit in. -/
theorem dadRotatesDaa : Obligations.DadRotatesDaa := by
  refine ⟨fun p s => ⟨encodedAs_of_encode_eq (encode_dad p), ?dad⟩,
    ⟨encodedAs_of_encode_eq rfl, encodedAs_of_encode_eq rfl, encodedAs_of_encode_eq rfl, encodedAs_of_encode_eq rfl,
      encodedAs_of_encode_eq rfl⟩, fun s => ⟨?rlc, ?rrc, ?ral, ?rar, rfl⟩⟩
  case dad =>
    rw [exec_dad]
    exact dadPair_eq p s
  case rlc =>
    rw [exec_rlc, rotateLeft, retire_setCy_writeA_advance,
      shiftLeft_or_bitAt, getLsbD_seven_eq_decide, toNat_decide_ge]
  case rrc =>
    rw [exec_rrc, rotateRight, retire_setCy_writeA_advance,
      shiftRight_or_bitAt, getLsbD_zero_eq_decide, toNat_decide_odd]
  case ral =>
    rw [exec_ral, rotateLeftCarry, retire_setCy_writeA_advance,
      shiftLeft_or_bitAt, getLsbD_seven_eq_decide]
  case rar =>
    rw [exec_rar, rotateRightCarry, retire_setCy_writeA_advance,
      shiftRight_or_bitAt, getLsbD_zero_eq_decide]

/-! Round trips through the stack -/

/-- PUSH, then POP: the word popped is the one pushed. -/
theorem runAll_push_pop (p : PushPair) {s : State} (hwf : s.mem.wf = true) :
    let v := readPair (pushPairOf p) s
    let t := done 1 11 (pushed v s)
    runAll [.push p, .pop p] s = .next (done 1 10 (writePair (pushPairOf p) v { t with sp := t.sp + 2 })) := by
  intro v t
  obtain ⟨-, hpush, -, -⟩ := pushPopPair p s
  obtain ⟨-, -, -, hpop⟩ := pushPopPair p t
  have htop : stackTop t = v := stackTop_pushed hwf v
  rw [runAll, hpush]
  simp only [runAll]
  rw [hpop, htop]

/-- CALL, then RET: the word popped is the return address. -/
theorem runAll_call_ret (a16 : Addr) {s : State} (hwf : s.mem.wf = true) :
    let t := { done 3 17 (pushed (s.pc + 3) s) with pc := a16 }
    runAll [.call a16, .ret] s = .next { done 1 10 t with pc := s.pc + 3, sp := t.sp + 2 } := by
  intro t
  have hcall : exec (.call a16) s = .next t := retire_pushPcAndJump_advance a16 3 17 s
  have hret : exec .ret t = .next { done 1 10 t with pc := stackTop t, sp := t.sp + 2 } :=
    retire_returnToPopped_advance 1 10 t
  have htop : stackTop t = s.pc + 3 := stackTop_pushed hwf (s.pc + 3)
  rw [runAll, hcall]
  simp only [runAll]
  rw [hret, htop]

theorem readPair_done_writePair (p : PushPair) (n cost : Nat) (v : Addr) (s : State) :
    readPair (pushPairOf p) (done n cost (writePair (pushPairOf p) v s)) = v ∧
    (done n cost (writePair (pushPairOf p) v s)).sp = s.sp := by
  cases p <;> exact ⟨word16_hi_lo v, rfl⟩

/-- Settles O60: `runAll_push_pop` and `runAll_call_ret`, with SP down by two and up by two, modulo 2^16. -/
theorem stackRoundTrips : Obligations.StackRoundTrips := by
  refine ⟨fun p s hwf => ⟨_, runAll_push_pop p hwf, ?pair⟩,
    fun a16 s hwf => ⟨_, runAll_call_ret a16 hwf, rfl, BitVec.sub_add_cancel s.sp 2⟩⟩
  case pair =>
    obtain ⟨hpair, hsp⟩ := readPair_done_writePair p 1 10 (readPair (pushPairOf p) s)
      { done 1 11 (pushed (readPair (pushPairOf p) s) s) with sp := s.sp - 2 + 2 }
    exact ⟨hpair, hsp.trans (BitVec.sub_add_cancel s.sp 2)⟩

end Sys2Proof.Proofs
end

section
/-!
SUPPORT. What every instruction leaves alone, said once (spec/10_state.md R25, R40, spec/20_memory.md R54): a footprint is what
an instruction may write, each state operation has one rule that keeps a state within a footprint, and `exec_ran` gives
every instruction the footprint and the cost of the tables. The four frame statements are read off it.
-/

namespace Sys2Proof.Proofs

open Machine Expect

/-! Footprints -/

/-- What a column of R25 allows between the flags before and after. -/
def FlagsWithin (columns : FlagColumns) (before after : Flags) : Prop :=
  match columns with
  | .none => after = before
  | .cyOnly => after = { before with cy := after.cy }
  | .szpOnly => after.cy = before.cy ∧ after.ac = before.ac
  | .szpCy => after.ac = before.ac
  | .all => True

theorem FlagsWithin.ac {columns : FlagColumns} {before after : Flags} (h : FlagsWithin columns before after)
    (hall : columns ≠ .all) : after.ac = before.ac := by
  cases columns with
  | none => exact congrArg Flags.ac h
  | cyOnly =>
    have hcy : after = { before with cy := after.cy } := h
    rw [hcy]
  | szpOnly => exact h.2
  | szpCy => exact h
  | all => exact absurd rfl hall

/-- What an instruction may write, by default nothing: 8-bit registers, SP, columns of flags, bytes of memory, the enable,
and the output port it sends to. -/
structure Footprint where
  regs : List Reg8 := []
  sp : Bool := false
  flags : FlagColumns := .none
  stores : List Addr := []
  enable : Bool := false
  port : Option Byte := none

/-- What no instruction writes before it retires. -/
def untouched (s : State) : Counter × Byte × Buttons × Params × Counter × Counter :=
  (s.nextWakeup, s.nextInterruptOp, s.buttons, s.params, s.cycle, s.icount)

/-- `t` differs from `s` within the footprint `f`, and in PC. -/
structure Within (f : Footprint) (s t : State) : Prop where
  regs : ∀ r ∉ f.regs, readReg r t = readReg r s
  sp : f.sp = false → t.sp = s.sp
  flags : FlagsWithin f.flags s.flags t.flags
  mem : s.mem.wf = true →
    t.mem.wf = true ∧ ∀ a, (∀ b ∈ f.stores, cellOf b ≠ cellOf a) → memRead a t = memRead a s
  enable : f.enable = false → t.interruptsEnabled = s.interruptsEnabled
  shifter : f.port ≠ some 2 → f.port ≠ some 4 → t.shifter = s.shifter
  port3 : f.port ≠ some 3 → t.port3 = s.port3
  port5 : f.port ≠ some 5 → t.port5 = s.port5
  untouched : untouched t = untouched s

theorem untouched_eq_iff {s t : State} :
    untouched t = untouched s ↔
      t.nextWakeup = s.nextWakeup ∧ t.nextInterruptOp = s.nextInterruptOp ∧ t.buttons = s.buttons ∧
        t.params = s.params ∧ t.cycle = s.cycle ∧ t.icount = s.icount := by
  simp only [untouched, Prod.mk.injEq]

/-! The rule of each state operation -/

theorem FlagsWithin.refl (columns : FlagColumns) (f : Flags) : FlagsWithin columns f f := by
  cases columns with
  | none | cyOnly | szpCy => rfl
  | szpOnly => exact ⟨rfl, rfl⟩
  | all => trivial

theorem within_refl (f : Footprint) (s : State) : Within f s s where
  regs _ _ := rfl
  sp _ := rfl
  flags := .refl _ _
  mem hwf := ⟨hwf, fun _ _ => rfl⟩
  enable _ := rfl
  shifter _ _ := rfl
  port3 _ := rfl
  port5 _ := rfl
  untouched := rfl

section
variable {f : Footprint} {s t : State}

theorem Within.jumpTo (h : Within f s t) (target : Addr) : Within f s (jumpTo target t) :=
  { h with }

theorem within_advance (f : Footprint) (n : Nat) (s : State) : Within f s (advance n s) :=
  (within_refl f s).jumpTo _

theorem Within.setSp (h : Within f s t) (hsp : f.sp = true) (v : Addr) : Within f s { t with sp := v } :=
  { h with sp := by simp [hsp] }

theorem Within.setFlags (h : Within f s t) {g : Flags} (hg : FlagsWithin f.flags s.flags g) :
    Within f s { t with flags := g } :=
  { h with flags := hg }

theorem Within.setEnable (h : Within f s t) (hf : f.enable = true) (v : Bool) :
    Within f s { t with interruptsEnabled := v } :=
  { h with enable := by simp [hf] }

theorem Within.writeReg (h : Within f s t) {r : Reg8} (hr : r ∈ f.regs) (v : Byte) : Within f s (writeReg r v t) where
  regs q hq := by
    have hqr : q ≠ r := fun heq => hq (heq ▸ hr)
    rw [readReg_writeReg, if_neg hqr]
    exact h.regs q hq
  sp := by simpa using h.sp
  flags := by simpa using h.flags
  mem := by simpa [memRead] using h.mem
  enable := by simpa using h.enable
  shifter := by simpa using h.shifter
  port3 := by simpa using h.port3
  port5 := by simpa using h.port5
  untouched := by simpa [Proofs.untouched] using h.untouched

theorem Within.memWrite (h : Within f s t) {p : Addr} (hp : p ∈ f.stores) (v : Byte) : Within f s (memWrite p v t) :=
  { h with
    mem := fun hwf => by
      obtain ⟨hwf', hreads⟩ := h.mem hwf
      refine ⟨memWrite_wf hwf' p v, fun a ha => ?_⟩
      rw [memRead_memWrite hwf', if_neg (ha p hp), hreads a ha] }

/-- The 8-bit registers of a pair (R21); SP has none. -/
def pairRegs : RegPair → List Reg8
  | .bc => [.b, .c]
  | .de => [.d, .e]
  | .hl => [.h, .l]
  | .sp => []

/-- Whether a pair is SP. -/
def pairIsSp : RegPair → Bool
  | .bc | .de | .hl => false
  | .sp => true

/-- A pair is written as its two registers. -/
theorem Within.writePair (h : Within f s t) {p : RegPair} (hregs : ∀ r ∈ pairRegs p, r ∈ f.regs)
    (hsp : pairIsSp p = true → f.sp = true) (v : Addr) : Within f s (writePair p v t) := by
  cases p with
  | bc => exact (h.writeReg (hregs .b (by decide)) (hiByte v)).writeReg (hregs .c (by decide)) (loByte v)
  | de => exact (h.writeReg (hregs .d (by decide)) (hiByte v)).writeReg (hregs .e (by decide)) (loByte v)
  | hl => exact (h.writeReg (hregs .h (by decide)) (hiByte v)).writeReg (hregs .l (by decide)) (loByte v)
  | sp => exact h.setSp (hsp rfl) v

theorem Within.memWrite16 (h : Within f s t) {p : Addr} (hlo : p ∈ f.stores) (hhi : p + 1 ∈ f.stores) (v : Addr) :
    Within f s (memWrite16 p v t) :=
  (h.memWrite hlo _).memWrite hhi _

theorem Within.push16 (h : Within f s t) (hsp : f.sp = true) (hhi : t.sp - 1 ∈ f.stores) (hlo : t.sp - 2 ∈ f.stores)
    (v : Addr) : Within f s (push16 v t) := by
  rw [push16_eq_pushed, pushed]
  exact ((h.memWrite hhi _).memWrite hlo _).setSp hsp _

theorem Within.pop16 (h : Within f s t) (hsp : f.sp = true) : Within f s (pop16 t).2 := by
  rw [pop16_eq_stackTop]
  exact h.setSp hsp _

/-- A port writes the one device field that its number allows (R242). -/
theorem Within.portOut (h : Within f s t) {p v : Byte} (hp : f.port = some p) {u : State}
    (hu : portOut p v t = some u) : Within f s u := by
  unfold Machine.portOut at hu
  split_ifs at hu with h1 h2 h3 h4 h5 h6 <;> cases hu
  · exact h
  · exact { h with shifter := fun hne _ => absurd (hp.trans (congrArg some h2)) hne }
  · exact { h with port3 := fun hne => absurd (hp.trans (congrArg some h3)) hne }
  · exact { h with shifter := fun _ hne => absurd (hp.trans (congrArg some h4)) hne }
  · exact { h with port5 := fun hne => absurd (hp.trans (congrArg some h5)) hne }
  · exact h

end

/-! What a meaning does -/

/-- A meaning retires, at its cost, a state within its footprint, or raises a halt on the state it started from. -/
def Ran (s : State) (o : Out) (f : Footprint) (cost : Nat) : Prop :=
  (∃ t, Within f s t ∧ o = retire cost t) ∨ ∃ reason, o = raiseHalt reason s

theorem ran_retire {f : Footprint} {s t : State} (cost : Nat) (h : Within f s t) : Ran s (retire cost t) f cost :=
  .inl ⟨t, h, rfl⟩

theorem ran_raiseHalt (reason : HaltReason) (s : State) (f : Footprint) (cost : Nat) :
    Ran s (raiseHalt reason s) f cost :=
  .inr ⟨reason, rfl⟩

theorem ran_ifUnlistedAdmitted (op : Byte) {s : State} {admitted : Out} {f : Footprint} {cost : Nat}
    (h : Ran s admitted f cost) : Ran s (ifUnlistedAdmitted op s admitted) f cost := by
  obtain ⟨-, hrun⟩ | ⟨-, hhalt⟩ := ifUnlistedAdmitted_cases op s admitted
  · rwa [hrun]
  · exact .inr ⟨_, hhalt⟩

theorem ran_jumpTo (cost n : Nat) (target : Addr) (s : State) :
    Ran s (retire cost (jumpTo target (advance n s))) {} cost :=
  ran_retire cost ((within_advance _ n s).jumpTo target)

theorem ran_advance (cost n : Nat) (s : State) : Ran s (retire cost (advance n s)) {} cost :=
  ran_retire cost (within_advance _ n s)

theorem ran_writeReg (cost n : Nat) (r : Reg8) (v : Byte) (s : State) :
    Ran s (retire cost (writeReg r v (advance n s))) { regs := [r] } cost :=
  ran_retire cost ((within_advance _ n s).writeReg (by simp) v)

theorem ran_writePair (cost n : Nat) (p : RegPair) (v : Addr) (s : State) :
    Ran s (retire cost (writePair p v (advance n s))) { regs := pairRegs p, sp := pairIsSp p } cost :=
  ran_retire cost ((within_advance _ n s).writePair (fun _ hr => hr) id v)

theorem ran_memWrite (cost n : Nat) (p : Addr) (v : Byte) (s : State) :
    Ran s (retire cost (memWrite p v (advance n s))) { stores := [p] } cost :=
  ran_retire cost ((within_advance _ n s).memWrite (by simp) v)

theorem ran_shldDirect (a16 : Addr) (s : State) : Ran s (shldDirect a16 s) { stores := [a16, a16 + 1] } 16 :=
  ran_retire 16 ((within_advance _ 3 s).memWrite16 (by simp) (by simp) _)

theorem ran_exchangeDeHl (s : State) : Ran s (exchangeDeHl s) { regs := [.d, .e, .h, .l] } 4 :=
  ran_retire 4 (((within_advance _ 1 s).writePair (by decide) (by decide) _).writePair (by decide) (by decide) _)

theorem ran_exchangeStackHl (s : State) :
    Ran s (exchangeStackHl s) { regs := [.h, .l], stores := [s.sp, s.sp + 1] } 18 :=
  ran_retire 18
    (((within_advance _ 1 s).memWrite16 (by simp) (by simp) _).writePair (fun _ hr => hr) (by simp [pairIsSp]) _)

/-- The footprint of a push from `s`. -/
def pushFootprint (s : State) : Footprint := { sp := true, stores := [s.sp - 1, s.sp - 2] }

theorem ran_push16 (cost n : Nat) (v : Addr) (s : State) :
    Ran s (retire cost (push16 v (advance n s))) (pushFootprint s) cost :=
  ran_retire cost ((within_advance _ n s).push16 rfl (by simp [pushFootprint]) (by simp [pushFootprint]) v)

theorem ran_pushPcAndJump (cost n : Nat) (target : Addr) (s : State) :
    Ran s (retire cost (pushPcAndJump target (advance n s))) (pushFootprint s) cost :=
  ran_retire cost
    (((within_advance _ n s).push16 rfl (by simp [pushFootprint]) (by simp [pushFootprint]) _).jumpTo target)

theorem ran_popPairOp (p : PushPair) (s : State) :
    Ran s (popPairOp p s) { regs := pairRegs (pushPairReg p), sp := true } 10 :=
  ran_retire 10 (((within_advance _ 1 s).pop16 rfl).writePair (fun _ hr => hr) (fun _ => rfl) _)

theorem ran_popPswOp (s : State) : Ran s (popPswOp s) { regs := [.a], sp := true, flags := .all } 10 :=
  ran_retire 10 ((((within_advance _ 1 s).pop16 rfl).writeReg (r := .a) (by simp) _).setFlags trivial)

theorem ran_returnToPopped (cost n : Nat) (s : State) :
    Ran s (retire cost (returnToPopped (advance n s))) { sp := true } cost :=
  ran_retire cost (((within_advance _ n s).pop16 rfl).jumpTo _)

/-- CMP does not write A. -/
theorem ran_applyAlu (cost n : Nat) (op : AluOp) (src : Byte) (s : State) :
    Ran s (retire cost (applyAlu op src (advance n s)))
      { regs := if op = .cmp then [] else [.a], flags := .szpCy } cost := by
  refine ran_retire cost ?_
  rw [applyAlu]
  split_ifs
  · exact (within_advance _ n s).setFlags rfl
  · exact ((within_advance _ n s).writeReg (r := .a) (by simp) _).setFlags rfl

theorem ran_setSzp_writeReg (cost n : Nat) (r : Reg8) (v : Byte) (s : State) :
    Ran s (retire cost (setSzp v (writeReg r v (advance n s)))) { regs := [r], flags := .szpOnly } cost :=
  ran_retire cost (((within_advance _ n s).writeReg (by simp) v).setFlags (by simp [FlagsWithin, szp]))

theorem ran_setSzp_writeM (cost n : Nat) (v : Byte) (s : State) :
    Ran s (retire cost (setSzp v (writeM v (advance n s)))) { stores := [readPair .hl s], flags := .szpOnly } cost :=
  ran_retire cost (((within_advance _ n s).memWrite (List.mem_singleton.mpr rfl) v).setFlags ⟨rfl, rfl⟩)

theorem ran_setCy (cost n : Nat) (cy : Bool) (s : State) :
    Ran s (retire cost (setCy cy (advance n s))) { flags := .cyOnly } cost :=
  ran_retire cost ((within_advance _ n s).setFlags rfl)

theorem ran_setCy_writeA (cost n : Nat) (cy : Bool) (v : Byte) (s : State) :
    Ran s (retire cost (setCy cy (writeReg .a v (advance n s)))) { regs := [.a], flags := .cyOnly } cost :=
  ran_retire cost (((within_advance _ n s).writeReg (by simp) v).setFlags rfl)

theorem ran_dadPair (p : RegPair) (s : State) : Ran s (dadPair p s) { regs := [.h, .l], flags := .cyOnly } 10 :=
  ran_retire 10 (((within_advance _ 1 s).writePair (fun _ hr => hr) (by decide) _).setFlags rfl)

theorem ran_setEnable (cost n : Nat) (v : Bool) (s : State) :
    Ran s (retire cost { advance n s with interruptsEnabled := v }) { enable := true } cost :=
  ran_retire cost ((within_advance _ n s).setEnable rfl v)

theorem ran_jumpIf (cond : Cond) (a16 : Addr) (s : State) : Ran s (jumpIf cond a16 s) {} 10 := by
  unfold jumpIf
  split
  · exact ran_jumpTo 10 3 a16 s
  · exact ran_advance 10 3 s

/-- A conditional call stores only where its condition holds, and costs 6 more there (R203). -/
theorem ran_callIf (cond : Cond) (a16 : Addr) (s : State) :
    Ran s (callIf cond a16 s)
      { sp := true, stores := if condTrue cond s.flags then [s.sp - 1, s.sp - 2] else [] }
      (if condTrue cond s.flags then 17 else 11) := by
  rw [callIf, condHolds_eq_condTrue]
  split_ifs
  · exact ran_pushPcAndJump 17 3 a16 s
  · exact ran_retire 11 (within_advance _ 3 s)

theorem ran_returnIf (cond : Cond) (s : State) :
    Ran s (returnIf cond s) { sp := true } (if condTrue cond s.flags then 11 else 5) := by
  rw [returnIf, condHolds_eq_condTrue]
  split_ifs
  · exact ran_returnToPopped 11 1 s
  · exact ran_retire 5 (within_advance _ 1 s)

theorem ran_inputPort (p : Byte) (s : State) : Ran s (inputPort p s) { regs := [.a] } 10 := by
  obtain ⟨v, -, hrun⟩ | ⟨-, hhalt⟩ := inputPort_cases p s
  · rw [hrun]
    exact ran_writeReg 10 2 .a v s
  · exact .inr ⟨_, hhalt⟩

theorem ran_outputPort (p : Byte) (s : State) : Ran s (outputPort p s) { port := some p } 10 := by
  unfold outputPort
  split
  next t ht => exact ran_retire 10 ((within_advance _ 2 s).portOut rfl ht)
  next => exact ran_raiseHalt _ s _ 10

/-! What every instruction does -/

/-- Whether an instruction writes the enable (R28). -/
def writesEnable : Instr → Bool
  | .ei | .di => true
  | _ => false

/-- The port an instruction sends to. -/
def sendsTo : Instr → Option Byte
  | .outPort p8 => some p8
  | _ => none

/-- The footprint of an instruction, by the tables of R25 and R40 and the addresses it stores to. -/
def footprint (i : Instr) (s : State) : Footprint where
  regs := writesRegs i
  sp := writesSp i
  flags := writesFlags i
  stores := storeAddrs i s
  enable := writesEnable i
  port := sendsTo i

/-- Every instruction keeps to its footprint and its cost; the cases are grouped by the operation that the instruction
runs. -/
theorem exec_ran (i : Instr) (s : State) : Ran s (exec i s) (footprint i s) (cost i s.flags) := by
  cases i
  case movBB | movBC | movBD | movBE | movBH | movBL | movBM | movBA | movCB | movCC | movCD | movCE | movCH | movCL |
      movCM | movCA | movDB | movDC | movDD | movDE | movDH | movDL | movDM | movDA | movEB | movEC | movED | movEE |
      movEH | movEL | movEM | movEA | movHB | movHC | movHD | movHE | movHH | movHL | movHM | movHA | movLB | movLC |
      movLD | movLE | movLH | movLL | movLM | movLA | movAB | movAC | movAD | movAE | movAH | movAL | movAM | movAA |
      mviB | mviC | mviD | mviE | mviH | mviL | mviA | lda | ldaxB | ldaxD | cma =>
    exact ran_writeReg _ _ _ _ s
  case movMB | movMC | movMD | movME | movMH | movML | movMA | sta | staxB | staxD =>
    exact ran_memWrite _ _ _ _ s
  case lxiB | lxiD | lxiH | lxiSp | inxB | inxD | inxH | inxSp | dcxB | dcxD | dcxH | dcxSp | lhld =>
    exact ran_writePair _ _ _ _ s
  case shld a16 => exact ran_shldDirect a16 s
  case xchg => exact ran_exchangeDeHl s
  case xthl => exact ran_exchangeStackHl s
  case pushB | pushD | pushH | pushPsw => exact ran_push16 11 1 _ s
  case popB | popD | popH => exact ran_popPairOp _ s
  case popPsw => exact ran_popPswOp s
  case addB | addC | addD | addE | addH | addL | addM | addA | adcB | adcC | adcD | adcE | adcH | adcL | adcM | adcA |
      subB | subC | subD | subE | subH | subL | subM | subA | sbbB | sbbC | sbbD | sbbE | sbbH | sbbL | sbbM | sbbA |
      anaB | anaC | anaD | anaE | anaH | anaL | anaM | anaA | xraB | xraC | xraD | xraE | xraH | xraL | xraM | xraA |
      oraB | oraC | oraD | oraE | oraH | oraL | oraM | oraA | cmpB | cmpC | cmpD | cmpE | cmpH | cmpL | cmpM | cmpA |
      adi | aci | sui | sbi | ani | xri | ori | cpi =>
    exact ran_applyAlu _ _ _ _ s
  case inrB | inrC | inrD | inrE | inrH | inrL | inrA | dcrB | dcrC | dcrD | dcrE | dcrH | dcrL | dcrA =>
    exact ran_setSzp_writeReg 5 1 _ _ s
  case inrM | dcrM => exact ran_setSzp_writeM 10 1 _ s
  case dadB | dadD | dadH | dadSp => exact ran_dadPair _ s
  case rlc | rrc | ral | rar => exact ran_setCy_writeA 4 1 _ _ s
  case stc => exact ran_setCy 4 1 true s
  case nop | daa => exact ran_advance 4 1 s
  case jmp | pchl => exact ran_jumpTo _ _ _ s
  case jnz | jz | jnc | jc | jpo | jpe | jp | jm => exact ran_jumpIf _ _ s
  case call | rst0 | rst1 | rst2 | rst3 | rst4 | rst5 | rst6 | rst7 => exact ran_pushPcAndJump _ _ _ s
  case cnz | cz | cnc | cc | cpo | cpe | cp | cm => exact ran_callIf _ _ s
  case ret => exact ran_returnToPopped 10 1 s
  case rnz | rz | rnc | rc | rpo | rpe | rp | rm => exact ran_returnIf _ s
  case ei => exact ran_setEnable 4 1 true s
  case inPort p8 => exact ran_inputPort p8 s
  case outPort p8 => exact ran_outputPort p8 s
  case mviM d8 => exact ran_ifUnlistedAdmitted 0x36 (ran_memWrite 10 2 _ d8 s)
  case cmc => exact ran_ifUnlistedAdmitted 0x3F (ran_setCy 4 1 _ s)
  case di => exact ran_ifUnlistedAdmitted 0xF3 (ran_setEnable 4 1 false s)
  case sphl => exact ran_ifUnlistedAdmitted 0xF9 (ran_writePair 5 1 .sp _ s)
  case hlt | undocumented08 | undocumented10 | undocumented18 | undocumented20 | undocumented28 | undocumented30 |
      undocumented38 | undocumentedCB | undocumentedD9 | undocumentedDD | undocumentedED | undocumentedFD =>
    exact ran_raiseHalt _ s _ _

/-- What an instruction answers: a state within its footprint that has retired, or its own start with `halted` written. -/
theorem exec_next_cases {i : Instr} {s t : State} (h : exec i s = .next t) :
    (∃ u, Within (footprint i s) s u ∧
      t = { u with cycle := u.cycle + BitVec.ofNat 64 (cost i s.flags), icount := u.icount + 1 }) ∨
    ∃ reason, t = haltedWith reason s := by
  obtain ⟨u, hu, hrun⟩ | ⟨reason, hhalt⟩ := exec_ran i s
  · exact .inl ⟨u, hu, retire_next.mp (hrun.symm.trans h)⟩
  · exact .inr ⟨reason, raiseHalt_next.mp (hhalt.symm.trans h)⟩

/-- An instruction that retires adds its cost to `cycle` and 1 to `icount`. -/
theorem exec_counts {i : Instr} {s t : State} (h : exec i s = .next t) :
    (t.cycle = s.cycle + BitVec.ofNat 64 (cost i s.flags) ∧ t.icount = s.icount + 1) ∨
    ∃ reason, t = haltedWith reason s := by
  obtain ⟨u, hu, rfl⟩ | hhalt := exec_next_cases h
  · obtain ⟨-, -, -, -, hcycle, hicount⟩ := untouched_eq_iff.mp hu.untouched
    exact .inl ⟨congrArg (· + _) hcycle, congrArg (· + 1) hicount⟩
  · exact .inr hhalt

/-! The frame statements -/

/-- Settles O56: a footprint's registers and SP are those of the table, and a halt writes neither. -/
theorem registerFrame : Obligations.RegisterFrame := by
  intro i s t h
  obtain ⟨u, hu, rfl⟩ | ⟨reason, rfl⟩ := exec_next_cases h
  · exact ⟨hu.regs, hu.sp⟩
  · exact ⟨fun _ _ => rfl, fun _ => rfl⟩

theorem writesFlags_eq_all_iff (i : Instr) : writesFlags i = .all ↔ i = .popPsw := by
  cases i <;> simp [writesFlags]

/-- The flags an instruction leaves are within its row of R25. -/
theorem exec_flagsWithin {i : Instr} {s t : State} (h : exec i s = .next t) :
    FlagsWithin (writesFlags i) s.flags t.flags := by
  obtain ⟨u, hu, rfl⟩ | ⟨reason, rfl⟩ := exec_next_cases h
  · exact hu.flags
  · exact .refl _ _

/-- Settles O57: `exec_flagsWithin` read in each column. -/
theorem flagFrame : Obligations.FlagFrame := by
  intro i s t h
  have hflags := exec_flagsWithin h
  refine ⟨fun hnone => ?_, fun hcy => ?_, fun hszp => ?_, hflags.ac, writesFlags_eq_all_iff i⟩
  · rwa [hnone] at hflags
  · rwa [hcy] at hflags
  · rwa [hszp] at hflags

/-- Settles O58: the addresses a footprint may store to are the instruction's own, and the mask is `cellOf`. -/
theorem memoryFrame : Obligations.MemoryFrame := by
  intro i s t hwf h
  obtain ⟨u, hu, rfl⟩ | ⟨reason, rfl⟩ := exec_next_cases h
  · obtain ⟨hwf', hreads⟩ := hu.mem hwf
    exact ⟨hwf', fun a ha => hreads a fun b hb hcell => ha b hb (cellOf_eq_iff.mp hcell)⟩
  · exact ⟨hwf, fun _ _ => rfl⟩

theorem writesEnable_eq_false {i : Instr} (hei : i ≠ .ei) (hdi : i ≠ .di) : writesEnable i = false := by
  unfold writesEnable
  split
  · exact absurd rfl hei
  · exact absurd rfl hdi
  · rfl

theorem sendsTo_ne_some {i : Instr} {p : Byte} (h : i ≠ .outPort p) : sendsTo i ≠ some p := by
  unfold sendsTo
  split
  · exact fun hp => h (congrArg Instr.outPort (Option.some.inj hp))
  · exact nofun

/-- Settles O59: EI and DI alone have the enable in their footprint and OUT alone a port, and retirement writes the
counters alone. -/
theorem controlAndDeviceFrame : Obligations.ControlAndDeviceFrame := by
  intro i s t h
  obtain ⟨u, hu, rfl⟩ | ⟨reason, rfl⟩ := exec_next_cases h
  · obtain ⟨hwakeup, hop, hbuttons, hparams, -, -⟩ := untouched_eq_iff.mp hu.untouched
    exact ⟨hwakeup, hop, hbuttons, hparams, fun hei hdi => hu.enable (writesEnable_eq_false hei hdi),
      fun h2 h4 => hu.shifter (sendsTo_ne_some h2) (sendsTo_ne_some h4), fun h3 => hu.port3 (sendsTo_ne_some h3),
      fun h5 => hu.port5 (sendsTo_ne_some h5)⟩
  · exact ⟨rfl, rfl, rfl, rfl, fun _ _ => rfl, fun _ _ => rfl, fun _ => rfl, fun _ => rfl⟩

end Sys2Proof.Proofs
end

section
/-!
SUPPORT. The scheduler's clock and the counters (spec/60_exceptions.md, spec/70_reset_and_hazards.md): between the two phases of
a step no wakeup is due, the scheduler phase counts its injection and the instruction its cost, by `exec_counts`.
-/

namespace Sys2Proof.Proofs

open Machine Expect

/-- Settles O4: `step_inv`, which goes through the state between the two phases. -/
theorem stepKeepsInvariant : Obligations.StepKeepsInvariant :=
  fun _ _ hinv hstep => step_inv hinv hstep

/-! The clock -/

/-- The opcode that the scheduler announces at `next_wakeup` (R281 c). -/
def announcedAt (wakeup : Nat) : Byte := if wakeup / Config.halfFrame % 2 = 1 then 0xCF else 0xD7

/-- The next multiple of `HALF_FRAME` announces the other opcode. -/
theorem announcedAt_add (w : Nat) : announcedAt (w + 16666) = announcedAt w ^^^ 0x18 := by
  have hdiv : (w + 16666) / Config.halfFrame = w / Config.halfFrame + 1 := Nat.add_div_right w (by decide)
  rw [announcedAt, announcedAt, hdiv]
  obtain heven | hodd := Nat.mod_two_eq_zero_or_one (w / Config.halfFrame)
  · rw [if_pos (by omega), if_neg (by omega)]
    rfl
  · rw [if_neg (by omega), if_pos hodd]
    rfl

/-- The clock between the two phases of a step: as in `SchedulerInv`, but no wakeup is due. -/
structure NotDue (s : State) : Prop where
  multiple : s.nextWakeup.toNat % 16666 = 0
  announced : s.nextInterruptOp = announcedAt s.nextWakeup.toNat
  ahead : s.cycle.toNat < s.nextWakeup.toNat
  near : s.nextWakeup.toNat ≤ s.cycle.toNat + 16666

/-- Rearming puts the wakeup one interval later, which is ahead of a clock less than 29 cycles overdue. -/
theorem notDue_rearm {s t : State} (hinv : s.SchedulerInv) (hcycle : s.cycle.toNat < 2 ^ 63)
    (hdue : s.nextWakeup.toNat ≤ s.cycle.toNat) (hwakeup : t.nextWakeup = s.nextWakeup)
    (hop : t.nextInterruptOp = s.nextInterruptOp) (hle : s.cycle.toNat ≤ t.cycle.toNat)
    (hge : t.cycle.toNat ≤ s.cycle.toNat + 11) : NotDue (rearm t) := by
  obtain ⟨hmultiple, hannounced, hoverdue, -⟩ := hinv
  simp only [Config.halfFrame] at hmultiple
  have hnext : (rearm t).nextWakeup.toNat = s.nextWakeup.toNat + 16666 := by
    rw [rearm_eq, hwakeup]
    exact Nat.mod_eq_of_lt (by omega)
  have hnextOp : (rearm t).nextInterruptOp = announcedAt s.nextWakeup.toNat ^^^ 0x18 := by
    rw [rearm_eq, hop, hannounced]
    rfl
  refine ⟨?multiple, ?announced, ?ahead, ?near⟩ <;> rw [hnext]
  case multiple => omega
  case announced => rw [hnextOp, announcedAt_add]
  case ahead => exact lt_of_le_of_lt hge (by omega)
  case near => exact Nat.add_le_add_right (hdue.trans hle) 16666

/-- The scheduler phase leaves no wakeup due, and adds at most the 11 cycles of an injection. -/
theorem schedulerPhase_notDue {s : State} (hinv : s.SchedulerInv) (hcycle : s.cycle.toNat < 2 ^ 63) :
    NotDue (schedulerPhase s) ∧ (schedulerPhase s).cycle.toNat ≤ s.cycle.toNat + 11 := by
  have hdueIff := interruptDue_eq_true_iff s
  obtain ⟨hnot, h⟩ | ⟨hdue, -, h⟩ | ⟨hdue, -, h⟩ := schedulerPhase_cases s <;> rw [h]
  · obtain ⟨hmultiple, hannounced, -, hnear⟩ := hinv
    have hahead : ¬ s.nextWakeup.toNat ≤ s.cycle.toNat := hdueIff.not.mp (by simp [hnot])
    exact ⟨⟨hmultiple, hannounced, Nat.lt_of_not_le hahead, hnear⟩, Nat.le_add_right _ _⟩
  · exact ⟨notDue_rearm hinv hcycle (hdueIff.mp hdue) rfl rfl le_rfl (Nat.le_add_right _ _), Nat.le_add_right _ _⟩
  · have hinject : (inject s.nextInterruptOp s).cycle.toNat = s.cycle.toNat + 11 := by
      rw [inject_cycle, BitVec.toNat_add]
      exact Nat.mod_eq_of_lt (by simp only [BitVec.toNat_ofNat]; omega)
    exact ⟨notDue_rearm hinv hcycle (hdueIff.mp hdue) rfl rfl (by omega) hinject.le, hinject.le⟩

/-- No instruction costs more than XTHL (R310, R311). -/
theorem cost_le (i : Instr) (f : Flags) : cost i f ≤ 18 := by
  cases i
  case rnz | rz | rnc | rc | rpo | rpe | rp | rm | cnz | cz | cnc | cc | cpo | cpe | cp | cm =>
    simp only [cost]
    split <;> decide
  all_goals exact Nat.le_of_ble_eq_true rfl

/-- An instruction adds at most 18 cycles, and a halt none. -/
theorem exec_cycle {i : Instr} {s t : State} (h : exec i s = .next t) (hcycle : s.cycle.toNat ≤ 2 ^ 63 + 11) :
    s.cycle.toNat ≤ t.cycle.toNat ∧ t.cycle.toNat ≤ s.cycle.toNat + 18 := by
  obtain ⟨hcost, -⟩ | ⟨reason, rfl⟩ := exec_counts h
  · have hle := cost_le i s.flags
    have hsum : t.cycle.toNat = s.cycle.toNat + cost i s.flags := by
      rw [hcost, BitVec.toNat_add, BitVec.toNat_ofNat, Nat.mod_eq_of_lt (by omega : cost i s.flags < 2 ^ 64),
        Nat.mod_eq_of_lt (by omega)]
    omega
  · exact ⟨le_rfl, Nat.le_add_right _ _⟩

/-- Settles O5: the scheduler phase leaves no wakeup due (`schedulerPhase_notDue`), and the instruction moves the clock by
at most 18 cycles (`exec_cycle`) and leaves the scheduler alone. -/
theorem stepKeepsSchedulerClock : Obligations.StepKeepsSchedulerClock := by
  intro s t hinv hcycle hstep
  obtain ⟨-, hexec⟩ := step_next hstep
  obtain ⟨⟨hmultiple, hannounced, hahead, hnear⟩, hinjected⟩ := schedulerPhase_notDue hinv hcycle
  obtain ⟨hle, hge⟩ := exec_cycle hexec (by omega)
  obtain ⟨hwakeup, hop, -⟩ := controlAndDeviceFrame _ _ _ hexec
  refine ⟨?multiple, ?announced, ?overdue, ?near⟩ <;> rw [hwakeup]
  case multiple => exact hmultiple
  case announced => exact hop.trans hannounced
  case overdue => omega
  case near => exact hnear.trans (Nat.add_le_add_right hle _)

/-! The counters -/

theorem injects_iff (s : State) : injects s = true ↔ interruptDue s = true ∧ s.interruptsEnabled = true :=
  Bool.and_eq_true_iff

theorem schedulerPhase_of_injects {s : State} (h : injects s = true) :
    schedulerPhase s = rearm (inject s.nextInterruptOp s) := by
  obtain ⟨hdue, henabled⟩ := (injects_iff s).mp h
  rw [schedulerPhase, if_pos hdue, if_pos henabled]

/-- Without an injection the scheduler phase moves the scheduler's own two fields at most. -/
theorem schedulerPhase_of_not_injects {s : State} (h : injects s = false) :
    schedulerPhase s = s ∨ schedulerPhase s = rearm s := by
  obtain ⟨-, h'⟩ | ⟨-, -, h'⟩ | ⟨hdue, henabled, -⟩ := schedulerPhase_cases s
  · exact .inl h'
  · exact .inr h'
  · exact absurd ((injects_iff s).mpr ⟨hdue, henabled⟩) (by simp [h])

theorem schedulerPhase_counts (s : State) :
    (schedulerPhase s).icount = s.icount + (if injects s then 1 else 0) ∧
    (schedulerPhase s).cycle = s.cycle + BitVec.ofNat 64 (if injects s then 11 else 0) := by
  cases h : injects s with
  | true =>
    rw [schedulerPhase_of_injects h]
    exact ⟨rfl, rfl⟩
  | false => obtain h' | h' := schedulerPhase_of_not_injects h <;> simp [h']

/-- The three bytes of a fetch, by their addresses (R72). -/
theorem fetchInstr_eq_fetched (s : State) : fetchInstr s = fetched s := by
  have hpc : s.pc + 1 + 1 = s.pc + 2 := BitVec.add_assoc _ _ _
  rw [fetched, ← hpc]
  rfl

/-- Settles O19: the scheduler phase counts its injection (`schedulerPhase_counts`), and the instruction its cost. -/
theorem stepCountsRetirements : Obligations.StepCountsRetirements := by
  intro s t hstep hrunning
  obtain ⟨-, hexec⟩ := step_next hstep
  rw [fetchInstr_eq_fetched] at hexec
  obtain ⟨hicount', hcycle'⟩ := schedulerPhase_counts s
  obtain ⟨hcycle, hicount⟩ | ⟨reason, rfl⟩ := exec_counts hexec
  · refine ⟨?icount, ?cycle⟩
    case icount =>
      rw [hicount, hicount', BitVec.add_assoc]
      split <;> rfl
    case cycle => rw [hcycle, hcycle', BitVec.add_assoc, ← BitVec.ofNat_add]
  · cases hrunning

end Sys2Proof.Proofs
end

section
/-!
SUPPORT. The fetch of spec/30_encoding.md: three bytes at PC hold the instruction, and a store to PC is seen by the next fetch.
-/

namespace Sys2Proof.Proofs

open Machine Expect

/-- Three bytes hold the whole instruction of the first, whose operand bytes the decoder takes from the other two. -/
theorem decode_three (op b1 b2 : Byte) :
    decode [op, b1, b2] = .ok (decodeBytes op b1 b2, [op, b1, b2].drop (opcodeLength op)) := by
  obtain ⟨-, hdecode⟩ := encodedAs_encode (decodeBytes op b1 b2)
  have h := hdecode ([op, b1, b2].drop (opcodeLength op))
  rwa [encode_decodeBytes, List.take_append_drop] at h

/-- Settles O13: the three bytes at PC hold the instruction that the step fetches (`decode_three`). -/
theorem stepRunsDecodedInstruction : Obligations.StepRunsDecodedInstruction := by
  intro s i rest hs m hdecode
  refine ⟨?runs, fun hahead => ?notDue⟩
  case runs =>
    rw [decode_three] at hdecode
    cases hdecode
    rw [step_of_running hs, fetchInstr_eq_fetched]
    rfl
  case notDue =>
    have hnot : interruptDue s = false := decide_eq_false (Nat.not_le_of_lt hahead)
    change schedulerPhase s = s
    rw [schedulerPhase, hnot]
    rfl

theorem cellOf_add_ne (p : Addr) {d : Addr} (hd : d.toNat % 16384 ≠ 0) : cellOf p ≠ cellOf (p + d) := by
  rw [cellOf_eq_mod, cellOf_eq_mod, BitVec.toNat_add]
  omega

/-- Settles O24: the store reaches the opcode's cell, and the next two addresses have other cells. -/
theorem storedByteIsFetchedNext : Obligations.StoredByteIsFetchedNext := by
  intro s a v hwf halias
  have hcell : cellOf a = cellOf s.pc := cellOf_eq_iff.mpr halias
  have h1 : cellOf a ≠ cellOf (s.pc + 1) := hcell.trans_ne (cellOf_add_ne s.pc (by decide))
  have h2 : cellOf a ≠ cellOf (s.pc + 2) := hcell.trans_ne (cellOf_add_ne s.pc (by decide))
  rw [fetchInstr_eq_fetched, fetched, memWrite_pc, memRead_memWrite hwf, memRead_memWrite hwf, memRead_memWrite hwf,
    if_pos hcell, if_neg h1, if_neg h2]

end Sys2Proof.Proofs
end

section
/-!
SUPPORT. Interrupt entry and the enable (spec/60_exceptions.md): the entry is a push of PC, RET takes it back, and without a
parameter that allows it nothing clears the enable.
-/

namespace Sys2Proof.Proofs

open Machine Expect

/-! Interrupt entry -/

/-- Interrupt entry stores PC and no other byte, and the rearming none. -/
theorem memRead_rearm_inject (op : Byte) (s : State) (p : Addr) :
    memRead p (rearm (inject op s)) = memRead p (pushed s.pc s) := by
  rw [inject_eq]
  rfl

/-- A push stores to two addresses alone (`Within.push16`). -/
theorem memRead_pushed_other {s : State} (hwf : s.mem.wf = true) (v : Addr) {p : Addr}
    (hhi : cellOf (s.sp - 1) ≠ cellOf p) (hlo : cellOf (s.sp - 2) ≠ cellOf p) :
    memRead p (pushed v s) = memRead p s := by
  have hwithin : Within (pushFootprint s) s (push16 v s) :=
    (within_refl _ s).push16 rfl (by simp [pushFootprint]) (by simp [pushFootprint]) v
  obtain ⟨-, hreads⟩ := hwithin.mem hwf
  rw [← push16_eq_pushed]
  refine hreads p fun b hb => ?_
  obtain rfl | rfl := List.mem_pair.mp hb
  · exact hhi
  · exact hlo

theorem readReg_rearm_inject (op : Byte) (s : State) (r : Reg8) : readReg r (rearm (inject op s)) = readReg r s := by
  cases r <;> simp [readReg]

/-- RST 1 goes to 0x0008 and RST 2 to 0x0010 (R208). -/
theorem restartVector_of_rst {op : Byte} (h : op = 0xCF ∨ op = 0xD7) :
    restartVector (op.extractLsb' 3 3).toNat = if op = 0xCF then 0x0008 else 0x0010 := by
  obtain rfl | rfl := h <;> rfl

/-- Settles O15: the entry is `inject`, and its stores are those of a push of PC. -/
theorem interruptEntry : Obligations.InterruptEntry := by
  intro s hinv hinjects
  obtain ⟨hwf, hop, -⟩ := hinv
  obtain ⟨-, henabled⟩ := (injects_iff s).mp hinjects
  obtain ⟨hhi, hlo⟩ := memRead_pushed hwf s.pc
  rw [schedulerPhase_of_injects hinjects]
  refine ⟨?high, ?low, fun a h1 h2 => ?other, ?sp, ?pc, ?enable, ?kept⟩
  case high => rw [memRead_rearm_inject, hhi]
  case low => rw [memRead_rearm_inject, hlo]
  case other =>
    rw [memRead_rearm_inject]
    exact memRead_pushed_other hwf s.pc (fun h => h1 (cellOf_eq_iff.mp h).symm) (fun h => h2 (cellOf_eq_iff.mp h).symm)
  case sp => rw [rearm_sp, inject_sp, BitVec.sub_sub]; rfl
  case pc => rw [rearm_pc, inject_pc, restartVector_of_rst hop]
  case enable => rw [rearm_interruptsEnabled, inject_interruptsEnabled, henabled, Bool.true_and]
  case kept => simp [readReg_rearm_inject]

/-- Settles O16: RET pops the PC that the entry pushed (`stackTop_pushed`). -/
theorem interruptReturnResumes : Obligations.InterruptReturnResumes := by
  intro s hinv hinjects
  obtain ⟨hwf, -, -⟩ := hinv
  have hphase : schedulerPhase s = rearm (inject s.nextInterruptOp s) := schedulerPhase_of_injects hinjects
  have htop : stackTop (schedulerPhase s) = s.pc := by
    rw [hphase, inject_eq]
    exact stackTop_pushed hwf s.pc
  have hsp : (schedulerPhase s).sp + 2 = s.sp := by
    rw [hphase, inject_eq]
    exact BitVec.sub_add_cancel s.sp 2
  have hregs (r : Reg8) : readReg r (schedulerPhase s) = readReg r s := by rw [hphase, readReg_rearm_inject]
  have hflags : (schedulerPhase s).flags = s.flags := by rw [hphase, rearm_flags, inject_flags]
  have hret := retire_returnToPopped_advance 1 10 (schedulerPhase s)
  obtain ⟨hkept, -⟩ := registerFrame .ret _ _ hret
  exact ⟨_, hret, htop, hsp, fun r => (hkept r List.not_mem_nil).trans (hregs r), hflags, rfl⟩

/-! The enable -/

/-- Without `INTA_CLEARS_IE` the scheduler phase keeps the enable set (D12). -/
theorem schedulerPhase_keeps_enabled {s : State} (hkeep : s.params.intaClearsIe = false)
    (henabled : s.interruptsEnabled = true) : (schedulerPhase s).interruptsEnabled = true := by
  obtain ⟨-, h⟩ | ⟨-, -, h⟩ | ⟨-, -, h⟩ := schedulerPhase_cases s <;> simp [h, hkeep, henabled]

/-- Without `ADMIT_UNLISTED` no instruction clears the enable (D1): DI halts, and but for EI the others do not write it. -/
theorem exec_keeps_enabled {i : Instr} {s t : State} (hadmit : s.params.admitUnlisted = false)
    (henabled : s.interruptsEnabled = true) (h : exec i s = .next t) : t.interruptsEnabled = true := by
  by_cases hei : i = .ei
  · exact interruptsEnabled_of_exec_ei (hei ▸ h)
  by_cases hdi : i = .di
  · have hhalt : exec .di s = .next (haltedWith (.unknownOpcode 0xF3 s.icount s.pc) s) :=
      ifUnlistedAdmitted_of_not_admitted hadmit _ _
    rw [hdi, hhalt] at h
    cases h
    exact henabled
  · obtain ⟨-, -, -, -, hkeeps, -⟩ := controlAndDeviceFrame i s t h
    exact (hkeeps hei hdi).trans henabled

/-- Settles O20: EI leaves the enable set for the scheduler phase, and neither phase of a step clears it without a
parameter. -/
theorem enableAndDisableRules : Obligations.EnableAndDisableRules := by
  refine ⟨fun s t hei hdue => ?ei, fun s t hadmit hkeep henabled hstep => ?step⟩
  case ei =>
    obtain ⟨hwakeup, hop, -⟩ := controlAndDeviceFrame .ei s t hei
    have hinjects : injects t = true := (injects_iff_due (interruptsEnabled_of_exec_ei hei)).mpr (hwakeup ▸ hdue)
    exact ⟨hinjects, hop ▸ schedulerPhase_of_injects hinjects⟩
  case step =>
    obtain ⟨-, hexec⟩ := step_next hstep
    have hadmit' : (schedulerPhase s).params.admitUnlisted = false := (schedulerPhase_params s).symm ▸ hadmit
    exact exec_keeps_enabled hadmit' (schedulerPhase_keeps_enabled hkeep henabled) hexec

end Sys2Proof.Proofs
end

section
/-!
SUPPORT. The halt and the launch (spec/60_exceptions.md, spec/70_reset_and_hazards.md): the cause of a halt and what it records,
and the fields at launch.
-/

namespace Sys2Proof.Proofs

open Machine Expect

/-! The halt -/

theorem step_of_halted {s : State} {reason : HaltReason} (h : s.halted = some reason) :
    step s = .fault (.halted reason) := by
  simp [step, h]

/-- What a cause records (R271): the port byte of IN and OUT, and the opcode byte otherwise. -/
theorem eq_of_haltCause {op port : Byte} {s : State} {reason : HaltReason} (h : haltCause op port s = some reason) :
    reason = (if op = 0xDB then .unknownInPort port s.icount s.pc
      else if op = 0xD3 then .unknownOutPort port s.icount s.pc
      else .unknownOpcode op s.icount s.pc) := by
  unfold haltCause at h
  split_ifs at h ⊢ with hin hout
  · unfold inPortCause at h
    split_ifs at h
    exact (Option.some.inj h).symm
  · unfold outPortCause at h
    split_ifs at h
    exact (Option.some.inj h).symm
  · rw [← tier_decodeBytes op 0 0] at h
    obtain ⟨hreason, -⟩ := not_wellFormed_of_admissionCause h
    exact hreason

/-- From a running state, the instruction that halts it has its cause, and the halt is raised on that state. -/
theorem halt_of_exec_decodeBytes {op b1 b2 : Byte} {s t : State} {reason : HaltReason} (hs : s.halted = none)
    (h : exec (decodeBytes op b1 b2) s = .next t) (ht : t.halted = some reason) :
    haltCause op b1 s = some reason ∧ t = haltedWith reason s := by
  have hanswers := exec_decodeBytes_answers op b1 b2 s
  obtain ⟨u, hu, hcause⟩ := hanswers.next_halted hs
  cases hu.symm.trans h
  rw [← hcause, ht] at hanswers
  exact ⟨hcause.symm.trans ht, raiseHalt_next.mp (hanswers.symm.trans h)⟩

/-- Settles O18: a halt is raised on the state between the phases (`halt_of_exec_decodeBytes`), and its cause records what
`eq_of_haltCause` says. -/
theorem haltDiscardsEnginePhase : Obligations.HaltDiscardsEnginePhase := by
  refine ⟨fun s reason => step_of_halted, fun s t reason hs hstep ht => ?halts⟩
  case halts =>
    obtain ⟨-, hexec⟩ := step_next hstep
    obtain ⟨hcause, heq⟩ := halt_of_exec_decodeBytes ((schedulerPhase_halted s).trans hs) hexec ht
    exact ⟨heq, eq_of_haltCause hcause⟩

/-! The launch -/

/-- Settles O1: each field is the launch's own. -/
theorem launchFields : Obligations.LaunchFields := by
  intro p rom
  refine ⟨fun r => ?registers, rfl, rfl, rfl, rfl, rfl, rfl, rfl, rfl, rfl, rfl, rfl, rfl, rfl, rfl⟩
  case registers => cases r <;> rfl

theorem launch_schedulerInv (p : Params) (rom : List Byte) : (State.launch p rom).SchedulerInv := by
  have hwakeup : (State.launch p rom).nextWakeup = 16666 := rfl
  have hop : (State.launch p rom).nextInterruptOp = 0xCF := rfl
  have hcycle : (State.launch p rom).cycle = 0 := rfl
  rw [State.SchedulerInv, hwakeup, hop, hcycle]
  decide

/-- Settles O3: `launch_inv` and the clock at launch; the reset state is a launch. -/
theorem launchMeetsInvariants : Obligations.LaunchMeetsInvariants :=
  ⟨fun p rom => ⟨launch_inv p rom, launch_schedulerInv p rom⟩, launch_inv _ _, launch_schedulerInv _ _⟩

end Sys2Proof.Proofs
end

section
/-!
SUPPORT. The buttons (spec/44_io_port_layer.md): each phase of a step does the same with any buttons, unless it runs IN 1.
-/

namespace Sys2Proof.Proofs

open Machine Expect

/-- The next state changed by `g`; a stop is kept. -/
def mapNext (g : State → State) : Out → Out
  | .next t => .next (g t)
  | .fault reason => .fault reason
  | .refused reason => .refused reason

theorem schedulerPhase_setButtons (b : Buttons) (s : State) :
    schedulerPhase (setButtons b s) = setButtons b (schedulerPhase s) := by
  have hdue : interruptDue (setButtons b s) = interruptDue s := rfl
  rw [schedulerPhase, schedulerPhase, hdue, setButtons_interruptsEnabled]
  split_ifs <;> rfl

theorem jumpIf_setButtons (cond : Cond) (a16 : Addr) (b : Buttons) (s : State) :
    jumpIf cond a16 (setButtons b s) = mapNext (setButtons b) (jumpIf cond a16 s) := by
  rw [jumpIf, jumpIf, setButtons_flags]
  split <;> rfl

theorem callIf_setButtons (cond : Cond) (a16 : Addr) (b : Buttons) (s : State) :
    callIf cond a16 (setButtons b s) = mapNext (setButtons b) (callIf cond a16 s) := by
  rw [callIf, callIf, setButtons_flags]
  split <;> rfl

theorem returnIf_setButtons (cond : Cond) (b : Buttons) (s : State) :
    returnIf cond (setButtons b s) = mapNext (setButtons b) (returnIf cond s) := by
  rw [returnIf, returnIf, setButtons_flags]
  split <;> rfl

theorem ifUnlistedAdmitted_setButtons (op : Byte) (b : Buttons) (s : State) (admitted : State → Out)
    (h : admitted (setButtons b s) = mapNext (setButtons b) (admitted s)) :
    ifUnlistedAdmitted op (setButtons b s) (admitted (setButtons b s)) =
      mapNext (setButtons b) (ifUnlistedAdmitted op s (admitted s)) := by
  rw [ifUnlistedAdmitted, ifUnlistedAdmitted, setButtons_params]
  split
  · exact h
  · rfl

/-- The only port that reads the buttons is 1 (R241). -/
theorem portIn_setButtons {p : Byte} (hp : p ≠ 1) (b : Buttons) (s : State) :
    portIn p (setButtons b s) = portIn p s := by
  rw [portIn, portIn, if_neg hp, if_neg hp, setButtons_shifter]

theorem inputPort_setButtons {p : Byte} (hp : p ≠ 1) (b : Buttons) (s : State) :
    inputPort p (setButtons b s) = mapNext (setButtons b) (inputPort p s) := by
  rw [inputPort, inputPort, portIn_setButtons hp]
  split <;> rfl

theorem portOut_setButtons (p v : Byte) (b : Buttons) (s : State) :
    portOut p v (setButtons b s) = (portOut p v s).map (setButtons b) := by
  unfold portOut
  split_ifs <;> rfl

theorem outputPort_setButtons (p : Byte) (b : Buttons) (s : State) :
    outputPort p (setButtons b s) = mapNext (setButtons b) (outputPort p s) := by
  have hport : portOut p (setButtons b s).a (advance 2 (setButtons b s)) =
      (portOut p s.a (advance 2 s)).map (setButtons b) := portOut_setButtons p s.a b (advance 2 s)
  rw [outputPort, outputPort, hport]
  cases portOut p s.a (advance 2 s) <;> rfl

/-- But for IN 1, an instruction does the same with any buttons: where it tests a condition, a parameter or a port, the
test does not read them. -/
theorem exec_setButtons {i : Instr} (hi : i ≠ .inPort 1) (b : Buttons) (s : State) :
    exec i (setButtons b s) = mapNext (setButtons b) (exec i s) := by
  cases i
  case inPort p8 => exact inputPort_setButtons (fun hp => hi (congrArg Instr.inPort hp)) b s
  case outPort p8 => exact outputPort_setButtons p8 b s
  case jnz | jz | jnc | jc | jpo | jpe | jp | jm => exact jumpIf_setButtons _ _ b s
  case cnz | cz | cnc | cc | cpo | cpe | cp | cm => exact callIf_setButtons _ _ b s
  case rnz | rz | rnc | rc | rpo | rpe | rp | rm => exact returnIf_setButtons _ b s
  case mviM d8 =>
    exact ifUnlistedAdmitted_setButtons 0x36 b s (fun s => retire 10 (writeM d8 (advance 2 s))) rfl
  case cmc =>
    exact ifUnlistedAdmitted_setButtons 0x3F b s (fun s => retire 4 (setCy (!s.flags.cy) (advance 1 s))) rfl
  case di =>
    exact ifUnlistedAdmitted_setButtons 0xF3 b s (fun s => retire 4 { advance 1 s with interruptsEnabled := false }) rfl
  case sphl =>
    exact ifUnlistedAdmitted_setButtons 0xF9 b s (fun s => retire 5 (writePair .sp (readPair .hl s) (advance 1 s))) rfl
  all_goals rfl

theorem schedulerPhase_buttons (s : State) : (schedulerPhase s).buttons = s.buttons := by
  obtain ⟨-, h⟩ | ⟨-, -, h⟩ | ⟨-, -, h⟩ := schedulerPhase_cases s <;> simp [h]

/-- Settles O7: neither phase writes the buttons, and with other buttons each does the same (`schedulerPhase_setButtons`,
`exec_setButtons`). -/
theorem buttonsReachOnlyInPort1 : Obligations.ButtonsReachOnlyInPort1 := by
  intro s t b hne hstep
  obtain ⟨hs, hexec⟩ := step_next hstep
  obtain ⟨-, -, hbuttons, -⟩ := controlAndDeviceFrame _ _ _ hexec
  refine ⟨hbuttons.trans (schedulerPhase_buttons s), ?_⟩
  have hfetch : fetchInstr (setButtons b (schedulerPhase s)) = fetchInstr (schedulerPhase s) := rfl
  have hne' : fetchInstr (schedulerPhase s) ≠ .inPort 1 := fetchInstr_eq_fetched _ ▸ hne
  rw [step_of_running (s := setButtons b s) hs, schedulerPhase_setButtons, hfetch, exec_setButtons hne', hexec]
  rfl

end Sys2Proof.Proofs
end
